-- ==== Sys2Proof/Word.lean ====
section
/-! DEFINITION. The plain number and bit types of the WB3208 model: octets, sequence numbers, tags, period numbers, and the index types of threads, slots, store units, lanes and classes. -/

namespace Sys2Proof

/-- The octet, the unit of every size (00 3.1). -/
abbrev Byte := BitVec 8

/-- A shard sequence number; its arithmetic is modulo 256 (00 3.3). -/
abbrev Seq := BitVec 8

/-- A parcel tag, 16 bits (11 11.1). -/
abbrev Tag := BitVec 16

/-- A period number, which wraps at 65 536 (00 3.4). -/
abbrev PeriodNo := BitVec 16

/-- A thread number, source × 16 + stream (00 3.2). -/
abbrev ThreadId := Fin 1024

/-- A reassembly slot number (01). -/
abbrev SlotId := Fin 96

/-- A store unit number (04 4.1). -/
abbrev UnitNo := Fin 8192

/-- An egress lane number (06). -/
abbrev LaneId := Fin 4

/-- A store accounting class (04 4.4). -/
abbrev ClassId := Fin 4

end Sys2Proof
end

