-- ==== Sys2Proof/Syntax.lean ====
section
/-! DEFINITION. The commands of the WB3208: one constructor per row of spec/opcode_table.json. -/

namespace Sys2Proof

/-- A command. The events come first, then the controller's requests. A request carries its request number and its
operands as raw values of the widths of 11 R164, so that an operand out of range can be sent and is answered by the
status the rules give. -/
inductive Instr
  /-- RESETN is asserted (09 R140). -/
  | resetnAssert
  /-- RESETN is released (09 R140). -/
  | resetnRelease
  /-- The Parcel Store reports its start-up build complete (09 R141). -/
  | endOfStartUp
  /-- A 64-octet shard arrives on the ingress link (07 R111). -/
  | shardArrival (octets : Vector Byte 64)
  /-- Mode Control takes one slot report (09 R143). -/
  | closeJudgement
  /-- A 16-bit grant word arrives on a lane's reverse channel (06 R98, 11 R167). -/
  | grant (lane : LaneId) (word : BitVec 16)
  /-- The end delimiter of a lane's frame has left (06 R97). -/
  | emissionEnd (lane : LaneId)
  /-- A lane's stall timer expires (06 R100). -/
  | stallExpiry (lane : LaneId)
  /-- The period timer expires (05 R83). -/
  | periodExpiry
  /-- The scan in flight visits the slot at its cursor (05 R85). -/
  | scanVisit
  /-- The drain timer expires (08 R136). -/
  | drainTimerExpiry
  /-- The last octet of a return shard has left the return link (10 R151). -/
  | returnShardEnd
  /-- READ_SETTING (08 R125). -/
  | readSetting (number : BitVec 16) (index : Byte)
  /-- WRITE_SETTING of an index without a row of its own (08 R126). -/
  | writeSetting (number : BitVec 16) (index : Byte) (value : BitVec 16)
  /-- WRITE_SETTING of CONTROLLER (07 R114). -/
  | writeController (number : BitVec 16) (value : BitVec 16)
  /-- WRITE_SETTING of PERIOD (05 R89). -/
  | writePeriod (number : BitVec 16) (value : BitVec 16)
  /-- WRITE_SETTING of QUOTAc (04 R75). -/
  | writeQuota (number : BitVec 16) (cls : ClassId) (value : BitVec 16)
  /-- WRITE_SETTING of WARNc (04 R76). -/
  | writeWarn (number : BitVec 16) (cls : ClassId) (value : BitVec 16)
  /-- WRITE_SETTING of HYSTERESIS (04 R77). -/
  | writeHysteresis (number : BitVec 16) (value : BitVec 16)
  /-- WRITE_SETTING of STALLn (06 R99). -/
  | writeStall (number : BitVec 16) (lane : LaneId) (value : BitVec 16)
  /-- READ_THREAD (03 R62). -/
  | readThread (number : BitVec 16) (thread : BitVec 16)
  /-- WRITE_THREAD with the eight configuration operands (03 R53). -/
  | writeThread (number : BitVec 16) (thread : BitVec 16)
      (enabled cls lane limit window timeout retain verify : Byte)
  /-- READ_SLOT (08 R127). -/
  | readSlot (number : BitVec 16) (slot : Byte)
  /-- CUT with disposition SKIP (08 R129). -/
  | cutSkip (number : BitVec 16) (target : Byte) (id : BitVec 16)
  /-- CUT with disposition RELEASE (08 R130). -/
  | cutRelease (number : BitVec 16) (target : Byte) (id : BitVec 16)
  /-- LANE START (06 R102). -/
  | laneStart (number : BitVec 16) (lane : Byte)
  /-- LANE STOP (06 R103). -/
  | laneStop (number : BitVec 16) (lane : Byte)
  /-- LANE FLUSH (06 R104). -/
  | laneFlush (number : BitVec 16) (lane : Byte)
  /-- OPEN (08 R132). -/
  | openDevice (number : BitVec 16)
  /-- DRAIN (08 R133). -/
  | drain (number : BitVec 16)
  /-- READ_COUNTERS (08 R137). -/
  | readCounters (number : BitVec 16) (group lane clear : Byte)
  /-- RESTART with scope TRAFFIC (09 R146). -/
  | restartTraffic (number : BitVec 16)
  /-- RESTART with scope FULL (09 R148). -/
  | restartFull (number : BitVec 16)
  /-- A request whose code names none of the eleven requests (08 R123). -/
  | unknownRequest (number : BitVec 16) (code : Byte)
  deriving DecidableEq, Repr

end Sys2Proof
end

