-- ==== Sys2Proof/Decode.lean ====
section
/-! DEFINITION. Words of the opcode table. No row of spec/opcode_table.json gives bits (each has an empty field list and no fixed pattern), so no word spells a command. The octet forms the data book does give (shard headers, management payloads, grants) are read in Machine/Operands.lean. -/

namespace Sys2Proof

/-- The command that a table word of `nbits` bits spells: none, since no row of the table has bits (log entry 17). -/
def decodeTableWord (_nbits _w : Nat) : Option Instr := none

end Sys2Proof
end

