-- ==== Sys2Proof/Machine/Flags.lean ====
section
/-! DEFINITION. The two check values of the formats: the header check (11 R163) and the parcel check (11 R166). -/

namespace Sys2Proof.Machine

/-- `n` bit steps of the header check: polynomial 0x1021, most significant bit first (11 R163). -/
def headerCheckBits : Nat → BitVec 16 → BitVec 16
  | 0, r => r
  | n + 1, r => headerCheckBits n (if r.msb then (r <<< 1) ^^^ 0x1021#16 else r <<< 1)

/-- One octet into the header check. -/
def headerCheckOctet (r : BitVec 16) (b : Byte) : BitVec 16 :=
  headerCheckBits 8 (r ^^^ (b ++ 0#8))

/-- The header check over octets: initial value 0xFFFF, no final complement (11 R163). -/
def headerCheck (octets : List Byte) : BitVec 16 :=
  octets.foldl headerCheckOctet 0xFFFF#16

/-- `n` bit steps of the parcel check, least significant bit first, with the reflected polynomial (11 R166). -/
def parcelCheckBits : Nat → BitVec 32 → BitVec 32
  | 0, r => r
  | n + 1, r => parcelCheckBits n (if r.getLsbD 0 then (r >>> 1) ^^^ 0x82F63B78#32 else r >>> 1)

/-- One octet into the running check. -/
def parcelCheckOctet (r : BitVec 32) (b : Byte) : BitVec 32 :=
  parcelCheckBits 8 (r ^^^ b.setWidth 32)

/-- The initial value of the running check (11 R166). -/
def parcelCheckInit : BitVec 32 := 0xFFFFFFFF#32

/-- The running check advanced by octets in order (02 R33). -/
def parcelCheckUpdate (r : BitVec 32) (octets : List Byte) : BitVec 32 :=
  octets.foldl parcelCheckOctet r

/-- The final step: the register complemented (11 R166). -/
def parcelCheckFinal (r : BitVec 32) : BitVec 32 := ~~~r

/-- The four trailer octets as an unsigned 32-bit value, least significant octet first (11 R166). -/
def trailerValue (octets : List Byte) : BitVec 32 :=
  octets.getD 3 0 ++ octets.getD 2 0 ++ octets.getD 1 0 ++ octets.getD 0 0

end Sys2Proof.Machine
end

