-- ==== Sys2Proof/Config.lean ====
section
/-! DEFINITION. The fixed capacities of the part (00 1.2) and the one value its data book leaves open. -/

namespace Sys2Proof.Config

/-- Places in the management queue (08 8.1). -/
def managementPlaces : Nat := 8

/-- Places in the reply queue (10 10.1). -/
def replyPlaces : Nat := 8

/-- Places in the notice queue (10 10.1). -/
def noticePlaces : Nat := 16

/-- Places in each lane queue (06 R93). -/
def laneQueuePlaces : Nat := 32

/-- The highest credit a lane can hold (06 R98). -/
def creditLimit : Nat := 4095

/-- The saturation value of the lost-notice count (10 R156). -/
def lostNoticeLimit : Nat := 65535

/-- ORPHAN drops that make one ORPHAN_BURST (10 R158). -/
def orphanBurst : Nat := 16

/-- FREE VALUE (DESIGN CHOICE, log entry 9): how many octets of a frame have left the lane when a restart cuts it
(06 R106, 11 R167). The data book gives no time at which octets leave, so nothing is known of this number; the frame's
own length bounds what it can show. -/
opaque octetsSent : Nat → Nat

end Sys2Proof.Config
end

