-- ==== Sys2Proof/Machine/State.lean ====
section
/-! DEFINITION. The state of the WB3208 as plain data, block by block as 00 2.1 names them, and its value at reset. -/

namespace Sys2Proof.Machine

/-- Why the machine stops with a fault. The data book gives the part no fault that stops it, so no meaning raises one. -/
inductive Fault
  /-- Raised by no meaning: the data book names no fault that stops the part. Safe, since it never occurs. -/
  | neverRaised
  deriving DecidableEq, Repr

/-- Why a command is refused. -/
inductive Refusal
  /-- Raised only by an arm of `exec` that has no meaning yet. Safe: the machine stops. No arm raises it. -/
  | notModelled (mnemonic : String)
  deriving DecidableEq, Repr

/-! ## Mode Control -/

/-- The device mode (09 R139). -/
inductive Mode
  | starting | init | run | closing | closed
  deriving DecidableEq, Repr

/-! ## Slot Table -/

/-- Why a parcel was poisoned (02 R42). -/
inductive PoisonReason
  | window | overlong | framing | tag | store | quota | cut
  deriving DecidableEq, Repr

/-- A shard held in an early list, or a shard on its way to its place: everything of the shard that a later placement
needs, its payload being in the unit (01 1.1). -/
structure EarlyEntry where
  seq   : Seq
  unit  : UnitNo
  tag   : Tag
  first : Bool
  last  : Bool
  fill  : Byte
  deriving DecidableEq, Repr

/-- The fields of a slot that exist only in ASSEMBLING (01 1.1). -/
structure Assembly where
  expected    : Seq
  parcelStart : Seq
  parcelTag   : Option Tag
  placed      : List UnitNo
  check       : BitVec 32
  early       : List EarlyEntry
  lastHeld    : Option Nat
  deriving DecidableEq, Repr

/-- The names of the slot states (01 R2). -/
inductive SlotState
  | free | assembling | skipping | resting
  deriving DecidableEq, Repr

/-- A slot record (01 1.1). Each state carries exactly the fields the table of 01 1.1 gives it, so a FREE slot has none
(R1) and a SKIPPING or RESTING slot can hold no unit (R2). -/
inductive Slot
  | free
  | assembling (thread : ThreadId) (stamp : PeriodNo) (parcel : Assembly)
  | skipping (thread : ThreadId) (stamp : PeriodNo) (skipTag : Option Tag) (reason : PoisonReason)
  | resting (thread : ThreadId) (stamp : PeriodNo) (expected : Seq)
  deriving DecidableEq, Repr

/-! ## Thread Map -/

/-- The eight fields of a thread's configuration (03 R49). -/
structure ThreadConfig where
  enabled : Bool
  cls     : ClassId
  lane    : LaneId
  limit   : Nat
  window  : Nat
  timeout : Nat
  retain  : Bool
  verify  : Bool
  deriving DecidableEq, Repr

/-- An entry of the Thread Map (03 R48). -/
structure ThreadEntry where
  active  : ThreadConfig
  pending : Option ThreadConfig
  binding : Option SlotId
  deriving DecidableEq, Repr

/-! ## Parcel Store -/

/-- What the Parcel Store holds for one class (04 4.4, 4.7). `fallOwed` is the model's own: a unit of the class has been
returned in the step in progress and the judgement of R73 is still to be made; it is false between steps (log entry 6). -/
structure ClassAccount where
  usage     : Nat
  quota     : Nat
  warn      : Nat
  congested : Bool
  fallOwed  : Bool
  deriving DecidableEq, Repr

/-- The Parcel Store (04). `octets` holds octet i of unit u at address 56 × u + i, in the canonical form of
`Memory.wf`. -/
structure Store where
  octets     : List Host.Cell
  unitClass  : Vector (Option ClassId) 8192
  freeList   : List UnitNo
  classes    : Vector ClassAccount 4
  hysteresis : Nat
  deriving DecidableEq, Repr

/-! ## Aging Unit -/

/-- The Aging Unit (05). `timer` is the length of the period in progress, or none while the timer is stopped; the aging
state is IDLE exactly when `cursor` is none (R84). `period` is the PERIOD setting. -/
structure Aging where
  timer         : Option Nat
  periodNo      : PeriodNo
  cursor        : Option SlotId
  expiryPending : Bool
  period        : Nat
  deriving DecidableEq, Repr

/-! ## Lane Controllers -/

/-- A parcel descriptor (02 R36). -/
structure Descriptor where
  thread           : ThreadId
  tag              : Tag
  cls              : ClassId
  lane             : LaneId
  length           : Nat
  units            : List UnitNo
  completionPeriod : PeriodNo
  deriving DecidableEq, Repr

/-- The lane states (06 6.1). -/
inductive LaneState
  | stopped | idle | waiting | sending | stopping
  deriving DecidableEq, Repr

/-- The last frame that ended on a lane, as the line-side device saw it: its octets between the delimiters, and the
delimiter that ended it. The model's own record of the lane's output (log entry 11). -/
inductive LastFrame
  /-- The lane has ended no frame since RESETN. -/
  | none
  /-- A whole frame, ended by the end delimiter (06 R96). -/
  | whole (octets : List Byte)
  /-- A frame cut by a restart: the octets sent before the abort marker (06 R106). -/
  | aborted (octets : List Byte)
  deriving DecidableEq, Repr

/-- A Lane Controller (06 6.1). `stallTimer` is the limit the running timer was started with, or none while it is
stopped. `stallLimit` is the lane's STALL setting. -/
structure Lane where
  state      : LaneState
  queue      : List Descriptor
  emission   : Option Descriptor
  credit     : Nat
  stallTimer : Option Nat
  stallLimit : Nat
  lastFrame  : LastFrame
  deriving DecidableEq, Repr

/-! ## Return Link Controller -/

/-- The reply statuses (11 R165). -/
inductive Status
  | done | stored | replaced | nothing | refused | range | readOnly | unknown | queueFull | timeout
  deriving DecidableEq, Repr

/-- The snapshot of a slot that a READ_SLOT reply carries (08 R127). -/
structure SlotView where
  state       : SlotState
  thread      : Option ThreadId
  expected    : Option Seq
  parcelStart : Option Seq
  parcelTag   : Option Tag
  placedUnits : Nat
  early       : List Seq
  lastHeld    : Option Nat
  stamp       : Option PeriodNo
  skipTag     : Option Tag
  reason      : Option PoisonReason
  deriving DecidableEq, Repr

/-- The result fields of a reply (11 R165). -/
inductive ReplyResult
  | empty
  | value (v : BitVec 16)
  | ident (family : BitVec 16) (revision : Byte)
  | deviceStatus (mode : Mode) (periodNo : PeriodNo) (scanning working : Bool) (queued : Nat)
  | occupancy (free : Nat) (usages : List Nat) (slotsFree slotsAssembling slotsSkipping slotsResting : Nat)
  | thread (active : ThreadConfig) (pending : Option ThreadConfig) (binding : Option SlotId) (slotState : SlotState)
  | slot (view : SlotView)
  | cut (parcelsCut slotsReleased : Nat)
  | lane (state : LaneState) (queued credit flushed : Nat)
  | mode (mode : Mode)
  | drain (mode : Mode) (busySlots descriptors : Nat)
  | counters (values : List (BitVec 32))
  deriving DecidableEq, Repr

/-- A reply (08 R123): the number and code of its request, its status and its result fields. -/
structure Reply where
  number : BitVec 16
  code   : Byte
  status : Status
  result : ReplyResult
  deriving DecidableEq, Repr

/-- The 15 notice kinds (10 10.5). -/
inductive NoticeKind
  | started | reaped | window | overlong | framing | tag | check | store | quota | noSlot | laneFull | cut | stalled
  | flushed | orphanBurst
  deriving DecidableEq, Repr

/-- A notice (10 10.5). -/
structure Notice where
  kind       : NoticeKind
  thread     : Option ThreadId
  tag        : Option Tag
  lane       : Option LaneId
  count      : Option (BitVec 16)
  periodNo   : PeriodNo
  lostBefore : Nat
  deriving DecidableEq, Repr

/-- The content of a return shard (10 R151). -/
inductive ReturnContent
  | reply (r : Reply)
  | notice (n : Notice)
  | congestion (flags : List Bool) (usages : List Nat)
  deriving DecidableEq, Repr

/-- A return shard on the return link (10 R151). -/
structure ReturnShard where
  sequence : BitVec 8
  content  : ReturnContent
  deriving DecidableEq, Repr

/-- The Return Link Controller (10 10.1). The link state is SENDING exactly when a shard is on the link (`onLink`). -/
structure ReturnLink where
  replies           : List Reply
  notices           : List Notice
  congestionPending : Bool
  lostNotices       : Nat
  sequence          : BitVec 8
  onLink            : Option ReturnShard
  fullRestartHold   : Bool
  noticeMask        : BitVec 16
  deriving DecidableEq, Repr

/-! ## Management Engine -/

/-- A request in the management queue: what its management shard carried (08 8.1). `operands` are payload octets 3 and
onward. -/
structure Request where
  number   : BitVec 16
  code     : Byte
  operands : List Byte
  deriving DecidableEq, Repr

/-- The Management Engine (08 8.1). The engine state is WORKING exactly when a request is in progress. `drainTimer` is
the limit the running timer was started with, or none while it is stopped. `drainLimit` is DRAIN_LIMIT. -/
structure Engine where
  queue      : List Request
  inProgress : Option Request
  reserved   : Bool
  drainTimer : Option Nat
  drainLimit : Nat
  deriving DecidableEq, Repr

/-! ## Counter Bank -/

/-- Group 0, shard drops, in the order of 08 R137. -/
inductive DropCounter
  | header | kind | foreign | notRunning | disabled | orphan | behind | duplicate | skipped | noSlot | displaced | evictions
  deriving DecidableEq, Repr

/-- Group 1, parcel outcomes, in the order of 08 R137. -/
inductive ParcelCounter
  | sealed | window | overlong | framing | tag | check | store | quota | laneFull | reaped | cut
  deriving DecidableEq, Repr

/-- One lane's set of group 2, in the order of 08 R137. -/
inductive LaneCounter
  | emitted | stalled | flushed | aborted | grantOverflow
  deriving DecidableEq, Repr

/-- Group 3, device counts, in the order of 08 R137. -/
inductive DeviceCounter
  | agingOverrun | noticesLost | mgmtLost | congestionChanges
  deriving DecidableEq, Repr

/-- The Counter Bank's 32-bit counters, each group in the order 08 R137 lists it (10 R161). -/
structure Counters where
  drops   : Vector (BitVec 32) 12
  parcels : Vector (BitVec 32) 11
  lanes   : Vector (Vector (BitVec 32) 5) 4
  device  : Vector (BitVec 32) 4
  deriving DecidableEq, Repr

/-! ## The machine -/

/-- Everything the data book gives the WB3208, the commands waiting to be taken (`pending`), and the index of the next
free value (`freeIndex`, log entry 9). -/
structure State where
  pending     : List Instr
  resetn      : Bool
  building    : Bool
  mode        : Mode
  slotReports : Nat
  controller  : Fin 64
  threads     : Vector ThreadEntry 1024
  slots       : Vector Slot 96
  store       : Store
  aging       : Aging
  lanes       : Vector Lane 4
  engine      : Engine
  ret         : ReturnLink
  counters    : Counters
  orphanTally : Nat
  freeIndex   : Nat
  deriving DecidableEq, Repr

/-- The default configuration of a thread (03 R49). -/
def ThreadConfig.default : ThreadConfig :=
  { enabled := false, cls := 0, lane := 0, limit := 160, window := 0, timeout := 10, retain := false, verify := true }

/-- An entry of the Thread Map after RESETN (03 R50). -/
def ThreadEntry.default : ThreadEntry :=
  { active := ThreadConfig.default, pending := none, binding := none }

/-- A class account after RESETN (04 R79). -/
def ClassAccount.default : ClassAccount :=
  { usage := 0, quota := 2048, warn := 1536, congested := false, fallOwed := false }

/-- A Lane Controller after RESETN (06 R92), its STALL setting at the default of 11 11.6. -/
def Lane.default : Lane :=
  { state := .stopped, queue := [], emission := none, credit := 0, stallTimer := none, stallLimit := 100,
    lastFrame := .none }

/-- The Counter Bank after RESETN (10 R161). -/
def Counters.zero : Counters :=
  { drops := Vector.replicate 12 0, parcels := Vector.replicate 11 0,
    lanes := Vector.replicate 4 (Vector.replicate 5 0), device := Vector.replicate 4 0 }

/-- The machine while RESETN is asserted (09 R140, log entry 1): the values of 01 R1, 03 R50, 04 R79, 05 R82, 06 R92,
08 R120, 10 R151, R158, R161, and the settings' defaults of 11 11.6. -/
def State.reset : State :=
  { pending := [], resetn := true, building := false, mode := .starting, slotReports := 0, controller := 0,
    threads := Vector.replicate 1024 ThreadEntry.default,
    slots := Vector.replicate 96 Slot.free,
    store := { octets := [], unitClass := Vector.replicate 8192 none, freeList := [],
               classes := Vector.replicate 4 ClassAccount.default, hysteresis := 256 },
    aging := { timer := none, periodNo := 0, cursor := none, expiryPending := false, period := 1000 },
    lanes := Vector.replicate 4 Lane.default,
    engine := { queue := [], inProgress := none, reserved := false, drainTimer := none, drainLimit := 500 },
    ret := { replies := [], notices := [], congestionPending := false, lostNotices := 0, sequence := 0, onLink := none,
             fullRestartHold := false, noticeMask := 0x7FFF },
    counters := Counters.zero, orphanTally := 0, freeIndex := 0 }

end Sys2Proof.Machine
end

