-- ==== Sys2Proof/Machine/Operands.lean ====
section
/-! DEFINITION. Reading operands: the shard header (11 R163), the management payload and its request operands (11 R164), the grant word (11 R167), and the request each request row of the opcode table stands for. -/

namespace Sys2Proof.Machine

/-- Octet `i` of a sequence of octets, 0 past its end. -/
def octetAt (octets : List Byte) (i : Nat) : Byte := octets.getD i 0

/-- The two-octet field at octet `i`, most significant octet first (11). -/
def fieldAt (octets : List Byte) (i : Nat) : BitVec 16 := octetAt octets i ++ octetAt octets (i + 1)

/-- The two octets of a field, most significant first (11). -/
def fieldOctets (v : BitVec 16) : List Byte := [v.extractLsb' 8 8, v.extractLsb' 0 8]

/-! ## The shard header (11 11.1) -/

/-- The header fields of a shard. -/
structure ShardHeader where
  kind       : BitVec 2
  source     : Fin 64
  stream     : Fin 16
  first      : Bool
  last       : Bool
  mustBeZero : BitVec 2
  seq        : Seq
  fill       : Byte
  tag        : Tag
  check      : BitVec 16
  deriving DecidableEq, Repr

/-- The header fields as 11 11.1 places them. -/
def shardHeader (octets : List Byte) : ShardHeader :=
  { kind := (octetAt octets 0).extractLsb' 6 2
    source := Fin.ofNat 64 ((octetAt octets 0).extractLsb' 0 6).toNat
    stream := Fin.ofNat 16 ((octetAt octets 1).extractLsb' 4 4).toNat
    first := (octetAt octets 1).getLsbD 3
    last := (octetAt octets 1).getLsbD 2
    mustBeZero := (octetAt octets 1).extractLsb' 0 2
    seq := octetAt octets 2
    fill := octetAt octets 3
    tag := fieldAt octets 4
    check := fieldAt octets 6 }

/-- Thread s.t has number s × 16 + t (00 3.2, 03 R48). -/
def threadOf (source : Fin 64) (stream : Fin 16) : ThreadId := ⟨source.val * 16 + stream.val, by omega⟩

/-- A data shard as the Ingress Gate hands it on: its thread, marks, sequence, fill, tag and 56 payload octets. -/
structure DataShard where
  thread  : ThreadId
  first   : Bool
  last    : Bool
  seq     : Seq
  fill    : Byte
  tag     : Tag
  payload : List Byte
  deriving DecidableEq, Repr

/-- The data shard a header and its shard's octets make (07 R117). -/
def dataShard (h : ShardHeader) (octets : List Byte) : DataShard :=
  { thread := threadOf h.source h.stream, first := h.first, last := h.last, seq := h.seq, fill := h.fill, tag := h.tag,
    payload := octets.drop 8 }

/-- A fill is in range for a shard carrying L when it lies in 5–56 (02 R31). -/
def fillInRange (fill : Byte) : Bool := decide (5 ≤ fill.toNat) && decide (fill.toNat ≤ 56)

/-! ## Requests (11 11.2) -/

/-- The request of a management payload: number, code, operands (11 R164). -/
def requestOf (payload : List Byte) : Request :=
  { number := fieldAt payload 0, code := octetAt payload 2, operands := payload.drop 3 }

/-- Payload octet `i` of a request, `i` at least 3 (numbered as the table of 11 R164 numbers them). -/
def Request.octet (r : Request) (i : Nat) : Byte := octetAt r.operands (i - 3)

/-- The 16-bit operand at payload octet `i`. -/
def Request.field (r : Request) (i : Nat) : BitVec 16 := r.octet i ++ r.octet (i + 1)

/-- The eleven requests (08 8.4). -/
inductive RequestName
  | readSetting | writeSetting | readThread | writeThread | readSlot | cut | lane | openDevice | drain | readCounters
  | restart
  deriving DecidableEq, Repr

/-- The request a code names, if it names one of the eleven (11 R164). -/
def requestName (code : Byte) : Option RequestName :=
  match code.toNat with
  | 1 => some .readSetting
  | 2 => some .writeSetting
  | 3 => some .readThread
  | 4 => some .writeThread
  | 5 => some .readSlot
  | 6 => some .cut
  | 7 => some .lane
  | 8 => some .openDevice
  | 9 => some .drain
  | 10 => some .readCounters
  | 11 => some .restart
  | _ => none

/-- A yes/no operand: 0x00 no, 0x01 yes, any other value out of range (11 R164). -/
def yesNo (b : Byte) : Option Bool :=
  match b.toNat with
  | 0 => some false
  | 1 => some true
  | _ => none

/-- A request with the listed operand octets; the later ones, which the engine ignores (11 R164), are sent as 0x00
(log entry 19). -/
def requestWith (number : BitVec 16) (code : Byte) (listed : List Byte) : Request :=
  { number := number, code := code, operands := listed ++ List.replicate (53 - listed.length) 0 }

/-- The block count of a grant word: bits 11–0 (11 R167). -/
def grantBlocks (word : BitVec 16) : Nat := (word.extractLsb' 0 12).toNat

end Sys2Proof.Machine
end

