-- ==== Sys2Proof/Machine/Ops.lean ====
section
/-! DEFINITION. The named operations every meaning uses: the octet buffer of the store units, the accessors of the tables, the counters of the Counter Bank, and the queries over slots and lanes. -/

namespace Sys2Proof.Machine

/-! ## The octet buffer of the store units (04 R64) -/

/-- What an octet that no claim has written reads as (DESIGN CHOICE, log entry 8: the data book gives none, and no reader
uses such an octet). -/
def unlistedOctet : Byte := 0

/-- The octet at an address. -/
def Memory.read : List Host.Cell → Nat → Byte
  | [], _ => unlistedOctet
  | c :: rest, a => if c.1 = a then c.2 else Memory.read rest a

/-- A cell in front of a memory, left out where it holds what an unlisted address reads as. -/
def Memory.cons (a : Nat) (b : Byte) (m : List Host.Cell) : List Host.Cell :=
  if b = unlistedOctet then m else (a, b) :: m

/-- Write one octet, keeping the canonical form. -/
def Memory.write : List Host.Cell → Nat → Byte → List Host.Cell
  | [], a, b => Memory.cons a b []
  | c :: rest, a, b =>
    if c.1 < a then c :: Memory.write rest a b
    else if c.1 = a then Memory.cons a b rest
    else Memory.cons a b (c :: rest)

/-- Write octets at rising addresses. -/
def Memory.writeAll (m : List Host.Cell) (a : Nat) : List Byte → List Host.Cell
  | [] => m
  | b :: bs => Memory.writeAll (Memory.write m a b) (a + 1) bs

/-- The octets of `n` rising addresses. -/
def Memory.readAll (m : List Host.Cell) (a : Nat) : Nat → List Byte
  | 0 => []
  | n + 1 => Memory.read m a :: Memory.readAll m (a + 1) n

/-- The canonical form: addresses strictly rising, no cell equal to what an unlisted address reads as. -/
def Memory.wf (m : List Host.Cell) : Bool :=
  decide (m.Pairwise (fun c d => c.1 < d.1)) && m.all (fun c => c.2 != unlistedOctet)

/-- The octets of one store unit. -/
def unitSize : Nat := 56

/-- The address of a unit's first octet. -/
def unitAddress (u : UnitNo) : Nat := u.val * unitSize

/-- The 56 octets of a unit (04 R64). -/
def State.unitOctets (s : State) (u : UnitNo) : List Byte :=
  Memory.readAll s.store.octets (unitAddress u) unitSize

/-! ## Tables -/

/-- A slot record. -/
def State.slot (s : State) (k : SlotId) : Slot := s.slots[k.val]

/-- Write a slot record. -/
def State.setSlot (s : State) (k : SlotId) (sl : Slot) : State := { s with slots := s.slots.set k.val sl }

/-- An entry of the Thread Map (03 R48). -/
def State.thread (s : State) (t : ThreadId) : ThreadEntry := s.threads[t.val]

/-- Write an entry of the Thread Map. -/
def State.setThread (s : State) (t : ThreadId) (e : ThreadEntry) : State := { s with threads := s.threads.set t.val e }

/-- Write a thread's binding (03 R52). -/
def State.setBinding (s : State) (t : ThreadId) (b : Option SlotId) : State :=
  s.setThread t { s.thread t with binding := b }

/-- A class account. -/
def State.cls (s : State) (c : ClassId) : ClassAccount := s.store.classes[c.val]

/-- Write a class account. -/
def State.setCls (s : State) (c : ClassId) (a : ClassAccount) : State :=
  { s with store := { s.store with classes := s.store.classes.set c.val a } }

/-- A Lane Controller. -/
def State.lane (s : State) (n : LaneId) : Lane := s.lanes[n.val]

/-- Write a Lane Controller. -/
def State.setLane (s : State) (n : LaneId) (l : Lane) : State := { s with lanes := s.lanes.set n.val l }

/-- The slot numbers in order. -/
def slotIds : List SlotId := List.finRange 96

/-- The four classes in order. -/
def classIds : List ClassId := [0, 1, 2, 3]

/-- The four lanes in order. -/
def laneIds : List LaneId := [0, 1, 2, 3]

/-! ## Slots -/

/-- The name of a slot's state. -/
def Slot.state : Slot → SlotState
  | .free => .free
  | .assembling _ _ _ => .assembling
  | .skipping _ _ _ _ => .skipping
  | .resting _ _ _ => .resting

/-- The bound thread (01 R3). -/
def Slot.thread : Slot → Option ThreadId
  | .free => none
  | .assembling t _ _ => some t
  | .skipping t _ _ _ => some t
  | .resting t _ _ => some t

/-- A slot with a parcel in progress: ASSEMBLING or SKIPPING (01 R2, 09 R143). -/
def Slot.busy : Slot → Bool
  | .free => false
  | .assembling _ _ _ => true
  | .skipping _ _ _ _ => true
  | .resting _ _ _ => false

/-- The units a parcel in progress holds: the placed chain in position order, then the early list in list order
(01 R24, 02 R42). -/
def Assembly.units (a : Assembly) : List UnitNo := a.placed ++ a.early.map EarlyEntry.unit

/-- The units a slot holds (01 R2). -/
def Slot.units : Slot → List UnitNo
  | .free => []
  | .assembling _ _ a => a.units
  | .skipping _ _ _ _ => []
  | .resting _ _ _ => []

/-- A slot with its stamp set (01 R8, R23). -/
def Slot.restamp (now : PeriodNo) : Slot → Slot
  | .free => .free
  | .assembling t _ a => .assembling t now a
  | .skipping t _ g r => .skipping t now g r
  | .resting t _ e => .resting t now e

/-- The number of slots ASSEMBLING or SKIPPING (09 R143). -/
def State.busySlots (s : State) : Nat := s.slots.toList.countP Slot.busy

/-- The number of slots in a state (04 R81). -/
def State.slotCount (s : State) (n : SlotState) : Nat := s.slots.toList.countP (fun sl => sl.state == n)

/-- The slot that serves a thread: its binding, where that slot is bound. A binding that names a FREE slot, which R3
rules out, counts as none (log entry 15). -/
def State.boundSlot (s : State) (t : ThreadId) : Option SlotId :=
  match (s.thread t).binding with
  | none => none
  | some k => if s.slot k = .free then none else some k

/-! ## Counters (10 R161) -/

/-- The place of a counter in group 0. -/
def DropCounter.index : DropCounter → Fin 12
  | .header => 0
  | .kind => 1
  | .foreign => 2
  | .notRunning => 3
  | .disabled => 4
  | .orphan => 5
  | .behind => 6
  | .duplicate => 7
  | .skipped => 8
  | .noSlot => 9
  | .displaced => 10
  | .evictions => 11

/-- The place of a counter in group 1. -/
def ParcelCounter.index : ParcelCounter → Fin 11
  | .sealed => 0
  | .window => 1
  | .overlong => 2
  | .framing => 3
  | .tag => 4
  | .check => 5
  | .store => 6
  | .quota => 7
  | .laneFull => 8
  | .reaped => 9
  | .cut => 10

/-- The place of a counter in a lane's set of group 2. -/
def LaneCounter.index : LaneCounter → Fin 5
  | .emitted => 0
  | .stalled => 1
  | .flushed => 2
  | .aborted => 3
  | .grantOverflow => 4

/-- The place of a counter in group 3. -/
def DeviceCounter.index : DeviceCounter → Fin 4
  | .agingOverrun => 0
  | .noticesLost => 1
  | .mgmtLost => 2
  | .congestionChanges => 3

/-- The value of a group 0 counter. -/
def State.drops (s : State) (c : DropCounter) : BitVec 32 := s.counters.drops[c.index.val]

/-- The value of a group 1 counter. -/
def State.parcels (s : State) (c : ParcelCounter) : BitVec 32 := s.counters.parcels[c.index.val]

/-- The value of a group 2 counter of a lane. -/
def State.laneCounter (s : State) (n : LaneId) (c : LaneCounter) : BitVec 32 := s.counters.lanes[n.val][c.index.val]

/-- The value of a group 3 counter. -/
def State.device (s : State) (c : DeviceCounter) : BitVec 32 := s.counters.device[c.index.val]

/-- Add 1 to a group 0 counter, wrapping (R161). -/
def State.bumpDrop (s : State) (c : DropCounter) : State :=
  { s with counters := { s.counters with drops := s.counters.drops.set c.index.val (s.drops c + 1) } }

/-- Add 1 to a group 1 counter, wrapping (R161). -/
def State.bumpParcel (s : State) (c : ParcelCounter) : State :=
  { s with counters := { s.counters with parcels := s.counters.parcels.set c.index.val (s.parcels c + 1) } }

/-- Add to a group 2 counter of a lane, wrapping (R161). -/
def State.bumpLane (s : State) (n : LaneId) (c : LaneCounter) (by_ : Nat) : State :=
  { s with counters := { s.counters with
      lanes := s.counters.lanes.set n.val
        (s.counters.lanes[n.val].set c.index.val (s.laneCounter n c + BitVec.ofNat 32 by_)) } }

/-- Add 1 to a group 3 counter, wrapping (R161). -/
def State.bumpDevice (s : State) (c : DeviceCounter) : State :=
  { s with counters := { s.counters with device := s.counters.device.set c.index.val (s.device c + 1) } }

end Sys2Proof.Machine
end

