-- ==== Sys2Proof/Machine/Returns.lean ====
section
/-! DEFINITION. The Return Link Controller: the return arbiter, notices, replies, the congestion status and the orphan tally (10). -/

namespace Sys2Proof.Machine

/-- The code of a notice kind (11 R165). -/
def NoticeKind.code : NoticeKind → Nat
  | .started => 0
  | .reaped => 1
  | .window => 2
  | .overlong => 3
  | .framing => 4
  | .tag => 5
  | .check => 6
  | .store => 7
  | .quota => 8
  | .noSlot => 9
  | .laneFull => 10
  | .cut => 11
  | .stalled => 12
  | .flushed => 13
  | .orphanBurst => 14

/-- The notice kind of a poison reason (02 R42). -/
def PoisonReason.notice : PoisonReason → NoticeKind
  | .window => .window
  | .overlong => .overlong
  | .framing => .framing
  | .tag => .tag
  | .store => .store
  | .quota => .quota
  | .cut => .cut

/-- The group 1 counter of a poison reason (02 R42). -/
def PoisonReason.counter : PoisonReason → ParcelCounter
  | .window => .window
  | .overlong => .overlong
  | .framing => .framing
  | .tag => .tag
  | .store => .store
  | .quota => .quota
  | .cut => .cut

/-- Begin a return shard: it carries the return sequence, which then advances by 1 modulo 256, and the link is SENDING
(R151, R153). -/
def ReturnLink.begin_ (r : ReturnLink) (c : ReturnContent) : ReturnLink :=
  { r with onLink := some { sequence := r.sequence, content := c }, sequence := r.sequence + 1 }

/-- The congestion shard's content, read from the Parcel Store as it stands (R160). -/
def Store.congestionContent (st : Store) : ReturnContent :=
  .congestion (st.classes.toList.map ClassAccount.congested) (st.classes.toList.map ClassAccount.usage)

/-- The return arbiter's choice on an IDLE link: congestion status unless the full-restart hold is set, then the head of
the reply queue, then the head of the notice queue (R152). The beginning of a reply clears the hold (R153). -/
def ReturnLink.arbitrate (r : ReturnLink) (congestion : ReturnContent) : ReturnLink :=
  if r.onLink.isSome then r
  else if r.congestionPending && !r.fullRestartHold then
    { r with congestionPending := false }.begin_ congestion
  else
    match r.replies with
    | p :: rest => { r with replies := rest, fullRestartHold := false }.begin_ (.reply p)
    | [] =>
      match r.notices with
      | n :: rest => { r with notices := rest }.begin_ (.notice n)
      | [] => r

/-- The return arbiter's choice, at a submission and at the end of a return shard (R152). -/
def State.arbitrate (s : State) : State := { s with ret := s.ret.arbitrate s.store.congestionContent }

/-- A notice queued: it takes the lost-notice count as its lost-before field, and the count becomes 0 (R157). -/
def ReturnLink.queueNotice (r : ReturnLink) (n : Notice) : ReturnLink :=
  { r with notices := r.notices ++ [{ n with lostBefore := r.lostNotices }], lostNotices := 0 }

/-- A notice lost to a full queue: the lost-notice count saturates at 65 535 (R156). -/
def ReturnLink.loseNotice (r : ReturnLink) : ReturnLink :=
  { r with lostNotices := min (r.lostNotices + 1) Config.lostNoticeLimit }

/-- Raise a notice: masked, lost to a full queue, or queued (R156). Its period number is the Aging Unit's (10 10.5). -/
def State.raise (s : State) (kind : NoticeKind) (thread : Option ThreadId) (tag : Option Tag) (lane : Option LaneId)
    (count : Option (BitVec 16)) : State :=
  if s.ret.noticeMask.getLsbD kind.code = false then s
  else if s.ret.notices.length ≥ Config.noticePlaces then
    { s with ret := s.ret.loseNotice }.bumpDevice .noticesLost
  else
    { s with ret := s.ret.queueNotice { kind := kind, thread := thread, tag := tag, lane := lane, count := count,
                                        periodNo := s.aging.periodNo, lostBefore := 0 } }.arbitrate

/-- Queue a reply at the tail of the reply queue (R155). -/
def State.queueReply (s : State) (p : Reply) : State :=
  { s with ret := { s.ret with replies := s.ret.replies ++ [p] } }.arbitrate

/-- A change of a class's congestion state: counted, and a congestion status is pending (04 R74, R159). -/
def State.handOffCongestion (s : State) : State :=
  let s1 := s.bumpDevice .congestionChanges
  { s1 with ret := { s1.ret with congestionPending := true } }.arbitrate

/-- One ORPHAN drop: the counter and the orphan tally advance, and the sixteenth raises ORPHAN_BURST (01 R4, R158). -/
def State.dropOrphan (s : State) (t : ThreadId) : State :=
  let s1 := s.bumpDrop .orphan
  if s1.orphanTally + 1 ≥ Config.orphanBurst then
    { s1 with orphanTally := 0 }.raise .orphanBurst (some t) none none (some 16)
  else { s1 with orphanTally := s1.orphanTally + 1 }

end Sys2Proof.Machine
end

