-- ==== Sys2Proof/Machine/Store.lean ====
section
/-! DEFINITION. The Parcel Store: claims, returns, the congestion judgements, the store settings and the builds of the free list (04). -/

namespace Sys2Proof.Machine

/-- `n` units in numeric order from unit `k` (R65, R79). -/
def numericUnits : Nat → Nat → List UnitNo
  | 0, _ => []
  | n + 1, k => Fin.ofNat 8192 k :: numericUnits n (k + 1)

/-- The free list after a build: all 8192 units in numeric order (R65). -/
def builtFreeList : List UnitNo := numericUnits 8192 0

/-- The clear level of a class: WARNc − HYSTERESIS where WARNc is at least HYSTERESIS, and 0 otherwise (R73). -/
def State.clearLevel (s : State) (c : ClassId) : Nat :=
  if s.store.hysteresis ≤ (s.cls c).warn then (s.cls c).warn - s.store.hysteresis else 0

/-- A class changes its congestion state, and the change is handed on (R74). -/
def State.changeCongestion (s : State) (c : ClassId) (to_ : Bool) : State :=
  (s.setCls c { s.cls c with congested := to_ }).handOffCongestion

/-- The judgement after a successful claim (R72). -/
def State.judgeRise (s : State) (c : ClassId) : State :=
  if (s.cls c).congested = false ∧ (s.cls c).warn ≤ (s.cls c).usage then s.changeCongestion c true else s

/-- The judgement after returns (R73). -/
def State.judgeFall (s : State) (c : ClassId) : State :=
  if (s.cls c).congested = true ∧ (s.cls c).usage ≤ s.clearLevel c ∧ (s.cls c).usage < (s.cls c).warn then
    s.changeCongestion c false
  else s

/-- The re-judgement of a WARN or HYSTERESIS write (R78). -/
def State.rejudge (s : State) (c : ClassId) : State :=
  if (s.cls c).congested then s.judgeFall c else s.judgeRise c

/-- How a claim ends (R68). -/
inductive ClaimResult
  | taken (unit : UnitNo) (s : State)
  | failed (reason : PoisonReason)

/-- The unit at the head of the free list taken for a class: the payload and the class written into it, the usage of the
class one higher (R64, R65, R67). -/
def State.takeUnit (s : State) (c : ClassId) (payload : List Byte) (u : UnitNo) (rest : List UnitNo) : State :=
  let s1 := { s with store := { s.store with
    octets := Memory.writeAll s.store.octets (unitAddress u) payload
    unitClass := s.store.unitClass.set u.val (some c)
    freeList := rest } }
  s1.setCls c { s1.cls c with usage := (s1.cls c).usage + 1 }

/-- A claim for class `c`: QUOTA, then STORE, then success and the judgement of R72 (R68). -/
def State.claim (s : State) (c : ClassId) (payload : List Byte) : ClaimResult :=
  if (s.cls c).quota ≤ (s.cls c).usage then .failed .quota
  else
    match s.store.freeList with
    | [] => .failed .store
    | u :: rest => .taken u ((s.takeUnit c payload u rest).judgeRise c)

/-- One returned unit counted off the class it was claimed for, its class record removed (R71). -/
def State.uncountUnit (s : State) (u : UnitNo) : State :=
  match s.store.unitClass[u.val] with
  | none => s
  | some c =>
    let s1 := { s with store := { s.store with unitClass := s.store.unitClass.set u.val none } }
    s1.setCls c { s1.cls c with usage := (s1.cls c).usage - 1, fallOwed := true }

/-- A returned chain: each unit counted off its class, then the chain spliced onto the tail of the free list
(R65, R71). -/
def State.returnChain (s : State) (chain : List UnitNo) : State :=
  let s1 := chain.foldl State.uncountUnit s
  { s1 with store := { s1.store with freeList := s1.store.freeList ++ chain } }

/-- The judgement of R73 for one class, if a return of the step owes it. -/
def State.settleClass (s : State) (c : ClassId) : State :=
  if (s.cls c).fallOwed then (s.setCls c { s.cls c with fallOwed := false }).judgeFall c else s

/-- The judgements of R73 after all the returns of a step, once for each class whose usage they reduced, in class order
(R71; log entries 6 and 7). -/
def State.settleReturns (s : State) : State := classIds.foldl State.settleClass s

/-- A class that was CONGESTED becomes CLEAR at the rebuild, and the change is handed on (R80). -/
def State.clearAtRebuild (s : State) (c : ClassId) : State :=
  if (s.cls c).congested then s.changeCongestion c false else s

/-- The rebuild at a restart: class records removed, the free list in numeric order, every usage 0, every class CLEAR with
its change handed on in class order (R80, log entry 7). -/
def State.rebuildStore (s : State) : State :=
  let s1 := { s with store := { s.store with
    unitClass := Vector.replicate 8192 none
    freeList := builtFreeList
    classes := s.store.classes.map (fun a => { a with usage := 0, fallOwed := false }) } }
  classIds.foldl State.clearAtRebuild s1

end Sys2Proof.Machine
end

