-- ==== Sys2Proof/Machine/Lanes.lean ====
section
/-! DEFINITION. The Lane Controllers: the head judgement, emissions and frames, appends, grants, stall discards and the LANE actions (06). -/

namespace Sys2Proof.Machine

/-- The block count of a descriptor: its length divided by 64, rounded up (06 6.1, R94). -/
def Descriptor.blocks (d : Descriptor) : Nat := (d.length + 63) / 64

/-- A lane is started in IDLE, WAITING and SENDING (06 6.1). -/
def LaneState.started : LaneState → Bool
  | .stopped => false
  | .idle => true
  | .waiting => true
  | .sending => true
  | .stopping => false

/-- A frame is in flight in SENDING and STOPPING (06 6.1). -/
def LaneState.inFlight : LaneState → Bool
  | .stopped => false
  | .idle => false
  | .waiting => false
  | .sending => true
  | .stopping => true

/-- Start the emission of the head: its blocks are spent, it becomes the current emission, the stall timer stops and the
lane is SENDING (R95). -/
def Lane.startEmission (l : Lane) (d : Descriptor) (rest : List Descriptor) : Lane :=
  { l with credit := l.credit - d.blocks, queue := rest, emission := some d, stallTimer := none, state := .sending }

/-- Enter WAITING with the stall timer started at the lane's STALL setting, or not started where that is 0 (R99). -/
def Lane.wait (l : Lane) : Lane :=
  { l with state := .waiting, stallTimer := if l.stallLimit = 0 then none else some l.stallLimit }

/-- The judgement of a started lane's head (R94). `newHead` says that a stall discard has just left this head, so that a
lane already WAITING starts its timer again. -/
def Lane.judgeHead (l : Lane) (newHead : Bool) : Lane :=
  match l.queue with
  | [] => { l with state := .idle, stallTimer := none }
  | d :: rest =>
    if d.blocks ≤ l.credit then l.startEmission d rest
    else if l.state = .waiting ∧ newHead = false then l
    else l.wait

/-- Append a descriptor at the tail; in IDLE it is the head and is judged (R93). -/
def Lane.append (l : Lane) (d : Descriptor) : Lane :=
  if l.state = .idle then { l with queue := l.queue ++ [d] }.judgeHead false
  else { l with queue := l.queue ++ [d] }

/-- Add granted blocks, saturating at 4095; a WAITING lane judges its head (R98). -/
def Lane.addCredit (l : Lane) (g : Nat) : Lane :=
  if l.state = .waiting then { l with credit := min (l.credit + g) Config.creditLimit }.judgeHead false
  else { l with credit := min (l.credit + g) Config.creditLimit }

/-- The end of an emission: the frame is whole, and the next state is chosen from SENDING or STOPPING (R97). -/
def Lane.endEmission (l : Lane) (frame : List Byte) : Lane :=
  if l.state = .stopping then { l with emission := none, lastFrame := .whole frame, state := .stopped }
  else { l with emission := none, lastFrame := .whole frame }.judgeHead false

/-- LANE START (R102). -/
def Lane.start (l : Lane) : Lane :=
  match l.state with
  | .stopped => l.judgeHead false
  | .idle => l
  | .waiting => l
  | .sending => l
  | .stopping => { l with state := .sending }

/-- LANE STOP (R103). -/
def Lane.stop (l : Lane) : Lane :=
  match l.state with
  | .stopped => l
  | .idle => { l with state := .stopped }
  | .waiting => { l with state := .stopped, stallTimer := none }
  | .sending => { l with state := .stopping }
  | .stopping => l

/-- LANE FLUSH: the queue is emptied; WAITING becomes IDLE with the timer stopped (R104). -/
def Lane.flush (l : Lane) : Lane :=
  if l.state = .waiting then { l with queue := [], state := .idle, stallTimer := none }
  else { l with queue := [] }

/-- The state a restart leaves a lane in: a started lane IDLE, any other STOPPED (R106). -/
def LaneState.afterRestart (st : LaneState) : LaneState := if st.started then .idle else .stopped

/-- The lane header of a descriptor (11 R167). -/
def Descriptor.header (d : Descriptor) : List Byte :=
  fieldOctets (BitVec.ofNat 16 d.thread.val) ++ fieldOctets d.tag ++
    [BitVec.ofNat 8 d.cls.val, 0] ++ fieldOctets (BitVec.ofNat 16 d.length)

/-- The payload octets of a descriptor's frame: all 56 of each unit but the last, and of the last as many as make up the
length, so the trailer and what lies beyond the fill are not sent (R96). -/
def State.framePayload (s : State) (d : Descriptor) : List Byte :=
  (d.units.flatMap s.unitOctets).take d.length

/-- The octets of a descriptor's frame between its delimiters: lane header, then payload (R96, 11 R167). -/
def State.frameOctets (s : State) (d : Descriptor) : List Byte := d.header ++ s.framePayload d

/-- Offer a sealed descriptor to its lane: refused when the queue holds 32 (R93). -/
def State.offer (s : State) (d : Descriptor) : Option State :=
  if (s.lane d.lane).queue.length < Config.laneQueuePlaces then
    some (s.setLane d.lane ((s.lane d.lane).append d))
  else none

/-- A grant of `g` blocks on a lane: the credit saturates, and a grant lost in part is counted (R98). -/
def State.takeGrant (s : State) (n : LaneId) (g : Nat) : State :=
  let s1 := if Config.creditLimit < (s.lane n).credit + g then s.bumpLane n .grantOverflow 1 else s
  s1.setLane n ((s1.lane n).addCredit g)

/-- The end of the emission of `d` on a lane: its units returned, EMITTED counted, the next state chosen, and the
judgement of R73 made (R97). -/
def State.endEmission (s : State) (n : LaneId) (d : Descriptor) : State :=
  let frame := s.frameOctets d
  let s1 := (s.returnChain d.units).bumpLane n .emitted 1
  (s1.setLane n ((s1.lane n).endEmission frame)).settleReturns

/-- The stall discard of the head `d` of a lane: its units returned, STALLED raised and counted, the next head judged
(R100). -/
def State.stallDiscard (s : State) (n : LaneId) (d : Descriptor) (rest : List Descriptor) : State :=
  let s1 := s.setLane n { s.lane n with queue := rest }
  let s2 := s1.returnChain d.units
  let s3 := s2.raise .stalled (some d.thread) (some d.tag) (some n) (some (s2.aging.periodNo - d.completionPeriod))
  let s4 := s3.bumpLane n .stalled 1
  (s4.setLane n ((s4.lane n).judgeHead true)).settleReturns

/-- LANE FLUSH: every queued descriptor's units returned in queue order, FLUSHED raised and counted where any was queued,
the state set, and the judgement of R73 made (R104). -/
def State.flushLane (s : State) (n : LaneId) : State :=
  let flushed := (s.lane n).queue
  let s1 := s.setLane n (s.lane n).flush
  let s2 := flushed.foldl (fun t d => t.returnChain d.units) s1
  let s3 := if flushed = [] then s2
    else (s2.raise .flushed none none (some n) (some (BitVec.ofNat 16 flushed.length))).bumpLane n .flushed flushed.length
  s3.settleReturns

/-- A lane at a restart: the frame in flight cut with the abort marker after the octets already sent, the queue emptied,
credit 0, the timer stopped, started or stopped as it was (R106). How many octets had been sent is a free value
(log entry 9). -/
def State.restartLane (s : State) (n : LaneId) : State :=
  let l := s.lane n
  let cleared := { l with queue := [], emission := none, credit := 0, stallTimer := none, state := l.state.afterRestart }
  match l.emission with
  | none => s.setLane n cleared
  | some d =>
    let sent := (s.frameOctets d).take (Config.octetsSent s.freeIndex)
    let s1 := (s.setLane n { cleared with lastFrame := .aborted sent }).bumpLane n .aborted 1
    { s1 with freeIndex := s1.freeIndex + 1 }

/-- The number of descriptors the lanes hold, queued and in emission (08 R135). -/
def State.laneDescriptors (s : State) : Nat :=
  (laneIds.map (fun n => (s.lane n).queue.length + if (s.lane n).emission.isSome then 1 else 0)).sum

/-- A lane at rest for a drain: an empty queue, and neither SENDING nor STOPPING (08 R134, R109). -/
def Lane.settled (l : Lane) : Bool := l.queue.isEmpty && !l.state.inFlight

end Sys2Proof.Machine
end

