-- ==== Sys2Proof/Machine/Slots.lean ====
section
/-! DEFINITION. The Slot Table and the Thread Map's part in a parcel end: binding, release, poison, placement, completion, the drain of the early list and the judgement of data shards in each slot state (01, 02, 03 R56 to R58). -/

namespace Sys2Proof.Machine

/-! ## Parcel ends, releases and poisons -/

/-- The Thread Map takes a parcel-end signal: a pending configuration becomes the active one (03 R56). -/
def ThreadEntry.endParcel (e : ThreadEntry) : ThreadEntry :=
  match e.pending with
  | none => e
  | some c => { e with active := c, pending := none }

/-- The parcel-end signal of a thread (01 R25, 03 R56). -/
def State.signalParcelEnd (s : State) (t : ThreadId) : State := s.setThread t (s.thread t).endParcel

/-- A slot report to Mode Control, taken later as an event of its own (01 R25, 09 R143). -/
def State.reportSlot (s : State) : State := { s with slotReports := s.slotReports + 1 }

/-- Steps 3 and 4 of a release: the thread's binding cleared and the slot FREE (01 R24). -/
def State.freeSlot (s : State) (k : SlotId) (t : ThreadId) : State := (s.setBinding t none).setSlot k .free

/-- The release of a slot: its units returned as one chain, its parcel's end signalled where it had one in progress, the
binding cleared, the slot FREE (01 R24), and the report of R25 where it left ASSEMBLING or SKIPPING. -/
def State.releaseSlot (s : State) (k : SlotId) : State :=
  match s.slot k with
  | .free => s
  | .resting t _ _ => s.freeSlot k t
  | .skipping t _ _ _ => ((s.signalParcelEnd t).freeSlot k t).reportSlot
  | .assembling t _ a => (((s.returnChain a.units).signalParcelEnd t).freeSlot k t).reportSlot

/-- A poison: the units held go back as one chain, one notice and one discard count, and the slot is SKIPPING with the
skip tag and reason (02 R42). -/
def State.poison (s : State) (k : SlotId) (t : ThreadId) (stamp : PeriodNo) (held : List UnitNo) (skipTag : Option Tag)
    (reason : PoisonReason) : State :=
  (((s.returnChain held).raise reason.notice (some t) skipTag none none).bumpParcel reason.counter).setSlot k
    (.skipping t stamp skipTag reason)

/-- The skip tag of a poison: the parcel tag if present, otherwise the tag of the shard or entry judged (02 R43). -/
def skipTagOf (parcelTag : Option Tag) (judged : Tag) : Option Tag := some (parcelTag.getD judged)

/-! ## Distance and position (01 R9) -/

/-- The distance of a sequence from an expected sequence (00 3.3). -/
def distance (seq expected : Seq) : Nat := (seq - expected).toNat

/-- The position of a sequence in a parcel (00 3.3). -/
def position (seq parcelStart : Seq) : Nat := (seq - parcelStart).toNat

/-- The parcel fields at a parcel start (01 R5, R22, 02 R28). -/
def Assembly.begin_ (start : Seq) : Assembly :=
  { expected := start, parcelStart := start, parcelTag := none, placed := [], check := parcelCheckInit, early := [],
    lastHeld := none }

/-- The early-list entry a shard makes with the unit it claimed (01 R18). -/
def DataShard.entry (sh : DataShard) (u : UnitNo) : EarlyEntry :=
  { seq := sh.seq, unit := u, tag := sh.tag, first := sh.first, last := sh.last, fill := sh.fill }

/-- Insert an entry so that the list stays in order of increasing distance from expected (01 R18). -/
def insertEarly (expected : Seq) (e : EarlyEntry) : List EarlyEntry → List EarlyEntry
  | [] => [e]
  | f :: rest =>
    if distance e.seq expected < distance f.seq expected then e :: f :: rest else f :: insertEarly expected e rest

/-! ## Completion (02 2.5) -/

/-- The parcel length: 56 × (n − 1) + fill − 4 (02 2.1, R36). -/
def parcelLength (n : Nat) (fill : Byte) : Nat := 56 * (n - 1) + fill.toNat - 4

/-- The octets a shard adds to the running check: all 56 without L, the first fill − 4 with L (02 R33). -/
def State.checkedOctets (s : State) (e : EarlyEntry) : List Byte :=
  if e.last then (s.unitOctets e.unit).take (e.fill.toNat - 4) else s.unitOctets e.unit

/-- The trailer of an L shard: the four octets after its first fill − 4 (02 R34). -/
def State.trailer (s : State) (e : EarlyEntry) : BitVec 32 :=
  trailerValue ((s.unitOctets e.unit).drop (e.fill.toNat - 4))

/-- The trailer matches, or the thread does not verify (02 R34). -/
def State.trailerMatches (s : State) (verify : Bool) (check : BitVec 32) (e : EarlyEntry) : Bool :=
  !verify || parcelCheckFinal check == s.trailer e

/-- A discard at completion, for CHECK or LANE_FULL: the placed units returned as one chain, a notice and a count
(02 R37, R38). -/
def State.discardPlaced (s : State) (placed : List UnitNo) (kind : NoticeKind) (counter : ParcelCounter) (t : ThreadId)
    (tag : Option Tag) (lane : Option LaneId) : State :=
  ((s.returnChain placed).raise kind (some t) tag lane none).bumpParcel counter

/-- The descriptor of a sealed parcel (02 R36). -/
def State.descriptor (s : State) (t : ThreadId) (cfg : ThreadConfig) (a : Assembly) (fill : Byte) : Descriptor :=
  { thread := t, tag := a.parcelTag.getD 0, cls := cfg.cls, lane := cfg.lane,
    length := parcelLength a.placed.length fill, units := a.placed, completionPeriod := s.aging.periodNo }

/-- Steps 2 and 3 of a completion: the trailer judged, the descriptor offered, and the parcel sealed or discarded
(02 R35 to R38). -/
def State.sealParcel (s : State) (t : ThreadId) (a : Assembly) (e : EarlyEntry) : State :=
  let cfg := (s.thread t).active
  if s.trailerMatches cfg.verify a.check e then
    match s.offer (s.descriptor t cfg a e.fill) with
    | some s1 => s1.bumpParcel .sealed
    | none => s.discardPlaced a.placed .laneFull .laneFull t a.parcelTag (some cfg.lane)
  else s.discardPlaced a.placed .check .check t a.parcelTag none

/-- Drop early entries: their units returned as one chain in list order, each counted in group 0 (02 R39, R41, 03 R57). -/
def State.dropEntries (s : State) (early : List EarlyEntry) (c : DropCounter) : State :=
  early.foldl (fun t _ => t.bumpDrop c) (s.returnChain (early.map EarlyEntry.unit))

/-- Drop early entries as ORPHAN, each advancing the orphan tally (02 R39, 10 R158). -/
def State.orphanEntries (s : State) (t : ThreadId) (early : List EarlyEntry) : State :=
  early.foldl (fun u _ => u.dropOrphan t) (s.returnChain (early.map EarlyEntry.unit))

/-- What the re-judgement of R40 finds: the last-held of the new parcel, or the first entry that fails and why. -/
inductive Rejudged
  | ok (lastHeld : Option Nat)
  | failed (reason : PoisonReason) (e : EarlyEntry)

/-- The re-judgement of kept entries against a new parcel start, one by one in list order (02 R40). -/
def rejudgeEntries (limit : Nat) (start : Seq) : Option Nat → List EarlyEntry → Rejudged
  | lastHeld, [] => .ok lastHeld
  | lastHeld, e :: rest =>
    if lastHeld.any (fun h => decide (h < position e.seq start)) then rejudgeEntries limit start lastHeld rest
    else if limit ≤ position e.seq start then .failed .overlong e
    else if e.last then
      if fillInRange e.fill then rejudgeEntries limit start (some (position e.seq start)) rest
      else .failed .framing e
    else rejudgeEntries limit start lastHeld rest

/-- How a placement leaves its slot: the judgement over with the slot written (`over`), or the slot ASSEMBLING with this
parcel, the drain of its early list to go on (`more`). -/
inductive Placed
  | over (s : State)
  | more (a : Assembly) (s : State)

/-- The start of a retain thread's next parcel from the entries kept (02 R40). -/
def State.nextParcel (s : State) (k : SlotId) (t : ThreadId) (stamp : PeriodNo) (expected : Seq)
    (early : List EarlyEntry) : Placed :=
  match rejudgeEntries (s.thread t).active.limit expected none early with
  | .ok lastHeld => .more { Assembly.begin_ expected with early := early, lastHeld := lastHeld } s
  | .failed reason e => .over (s.poison k t stamp (early.map EarlyEntry.unit) (some e.tag) reason)

/-- The parcel's end after a seal or a completion discard: a pending configuration applied with every early entry
displaced, and the slot FREE, RESTING or going on to the next parcel (02 R39 to R41, 03 R56, R57). -/
def State.finishParcel (s : State) (k : SlotId) (t : ThreadId) (stamp : PeriodNo) (expected : Seq)
    (held : List EarlyEntry) : Placed :=
  let displaced := (s.thread t).pending.isSome
  let s1 := s.signalParcelEnd t
  let s2 := if displaced then s1.dropEntries held .displaced else s1
  let early := if displaced then [] else held
  let cfg := (s2.thread t).active
  if cfg.retain && cfg.enabled then
    if early = [] then .over ((s2.setSlot k (.resting t stamp expected)).reportSlot)
    else if s2.mode = .closing then
      .over (((s2.dropEntries early .notRunning).setSlot k (.resting t stamp expected)).reportSlot)
    else s2.nextParcel k t stamp expected early
  else .over (((s2.orphanEntries t early).freeSlot k t).reportSlot)

/-! ## Placement (01 1.7) -/

/-- Append a shard to the placed chain: its payload into the running check, expected one further (01 R14, 02 R33). -/
def State.appendShard (s : State) (a : Assembly) (e : EarlyEntry) : Assembly :=
  { a with placed := a.placed ++ [e.unit], check := parcelCheckUpdate a.check (s.checkedOctets e),
           expected := a.expected + 1 }

/-- A shard that has passed the placement checks: appended, and the parcel completed where it carries L
(01 R14, 02 R35). -/
def State.placePassed (s : State) (k : SlotId) (t : ThreadId) (stamp : PeriodNo) (a : Assembly) (e : EarlyEntry) :
    Placed :=
  let b := s.appendShard a e
  if e.last then (s.sealParcel t b e).finishParcel k t stamp b.expected b.early
  else .more b s

/-- A restart-on-F: the old parcel's placed units returned, a FRAMING notice and count, and the new parcel started at the
shard with the early list kept (02 R28). `p` is the shard's position in the old parcel. -/
def State.restartParcel (s : State) (t : ThreadId) (a : Assembly) (e : EarlyEntry) (p : Nat) : Assembly × State :=
  ({ Assembly.begin_ e.seq with early := a.early, lastHeld := a.lastHeld.map (fun h => h - p) },
   ((s.returnChain a.placed).raise .framing (some t) a.parcelTag none none).bumpParcel .framing)

/-- Place a shard or drained entry at expected: the position-0 mark (02 R27), a restart on F elsewhere (R28), the tag
(R29), then the append. The unit under judgement is returned last by a poison (R42, log entry 10). -/
def State.placeShard (s : State) (k : SlotId) (t : ThreadId) (stamp : PeriodNo) (a : Assembly) (e : EarlyEntry) :
    Placed :=
  if e.seq = a.parcelStart then
    if e.first then s.placePassed k t stamp { a with parcelTag := some e.tag } e
    else .over (s.poison k t stamp (a.units ++ [e.unit]) (skipTagOf a.parcelTag e.tag) .framing)
  else if e.first then
    let r := s.restartParcel t a e (position e.seq a.parcelStart)
    r.2.placePassed k t stamp { r.1 with parcelTag := some e.tag } e
  else if a.parcelTag = some e.tag then s.placePassed k t stamp a e
  else .over (s.poison k t stamp (a.units ++ [e.unit]) (skipTagOf a.parcelTag e.tag) .tag)

/-- The drain of the early list: the head is placed while it is at distance 0 (01 R17). Each placement takes one entry
from the list, so its length bounds the number of placements. -/
def State.drainEarly (k : SlotId) (t : ThreadId) (stamp : PeriodNo) : Nat → Assembly → State → State
  | 0, a, s => s.setSlot k (.assembling t stamp a)
  | n + 1, a, s =>
    match a.early with
    | [] => s.setSlot k (.assembling t stamp a)
    | e :: rest =>
      if e.seq = a.expected then
        match s.placeShard k t stamp { a with early := rest } e with
        | .over s1 => s1
        | .more b s1 => State.drainEarly k t stamp n b s1
      else s.setSlot k (.assembling t stamp a)

/-- A placement at arrival, and the drain that follows it (01 R16, R17). -/
def State.placeAndDrain (s : State) (k : SlotId) (t : ThreadId) (stamp : PeriodNo) (a : Assembly) (e : EarlyEntry) :
    State :=
  match s.placeShard k t stamp a e with
  | .over s1 => s1
  | .more b s1 => State.drainEarly k t stamp b.early.length b s1

/-! ## The start of a parcel at a shard carrying F -/

/-- A parcel started at an F shard in a bound slot: the unit claimed, the fill checked where it carries L, and the shard
placed at position 0 (01 R5, R10, R22, 02 R32, R46). -/
def State.startParcel (s : State) (k : SlotId) (sh : DataShard) : State :=
  let now := s.aging.periodNo
  match s.claim (s.thread sh.thread).active.cls sh.payload with
  | .failed reason => s.poison k sh.thread now [] (some sh.tag) reason
  | .taken u s1 =>
    if sh.last && !fillInRange sh.fill then s1.poison k sh.thread now [u] (some sh.tag) .framing
    else s1.placeAndDrain k sh.thread now (Assembly.begin_ sh.seq) (sh.entry u)

/-! ## Unbound threads (01 1.2) -/

/-- The FREE slot with the lowest number (01 R5). -/
def State.lowestFree (s : State) : Option SlotId := slotIds.find? (fun k => s.slot k == .free)

/-- The age of a RESTING slot, none for any other (00 3.4, 01 R6). -/
def State.restingAge (s : State) (k : SlotId) : Option Nat :=
  match s.slot k with
  | .resting _ stamp _ => some (s.aging.periodNo - stamp).toNat
  | .free => none
  | .assembling _ _ _ => none
  | .skipping _ _ _ _ => none

/-- One slot weighed against the oldest RESTING slot so far: only a greater age replaces it, so ties keep the lower
number (01 R6). -/
def State.olderResting (s : State) (best : Option (SlotId × Nat)) (k : SlotId) : Option (SlotId × Nat) :=
  match s.restingAge k with
  | none => best
  | some age =>
    match best with
    | none => some (k, age)
    | some b => if b.2 < age then some (k, age) else some b

/-- The RESTING slot of greatest age, the lowest-numbered of equals (01 R6). -/
def State.oldestResting (s : State) : Option SlotId := (slotIds.foldl s.olderResting none).map Prod.fst

/-- Bind a slot to the thread of an F shard and start the parcel there (01 R5). -/
def State.bindSlot (s : State) (k : SlotId) (sh : DataShard) : State :=
  (s.setBinding sh.thread (some k)).startParcel k sh

/-- Evict a RESTING slot: its thread unbound and the eviction counted (01 R6). -/
def State.evict (s : State) (k : SlotId) : State :=
  match (s.slot k).thread with
  | none => s
  | some t => (s.setBinding t none).bumpDrop .evictions

/-- A data shard of an unbound thread: ORPHAN without F; with F a FREE slot, an eviction, or NO_SLOT (01 R4 to R6). -/
def State.takeUnbound (s : State) (sh : DataShard) : State :=
  if sh.first then
    match s.lowestFree with
    | some k => s.bindSlot k sh
    | none =>
      match s.oldestResting with
      | some k => (s.evict k).bindSlot k sh
      | none => (s.bumpDrop .noSlot).raise .noSlot (some sh.thread) (some sh.tag) none none
  else s.dropOrphan sh.thread

/-! ## Bound threads -/

/-- Hold a shard early: it becomes an entry of the early list, and where it is an L of the parcel in progress it sets
last-held (01 R18, 02 R31). -/
def Assembly.hold (a : Assembly) (e : EarlyEntry) (lastHeld : Option Nat) : Assembly :=
  { a with early := insertEarly a.expected e a.early, lastHeld := lastHeld }

/-- The judgement of a shard in RESTING (01 R10). -/
def State.judgeResting (s : State) (k : SlotId) (expected : Seq) (sh : DataShard) : State :=
  let cfg := (s.thread sh.thread).active
  let now := s.aging.periodNo
  let d := distance sh.seq expected
  if d = 0 then
    if sh.first then s.startParcel k sh else s.poison k sh.thread now [] (some sh.tag) .framing
  else if 128 ≤ d then s.bumpDrop .behind
  else if cfg.window < d then s.poison k sh.thread now [] (some sh.tag) .window
  else if cfg.limit ≤ d then s.poison k sh.thread now [] (some sh.tag) .overlong
  else if sh.last && !fillInRange sh.fill then s.poison k sh.thread now [] (some sh.tag) .framing
  else
    match s.claim cfg.cls sh.payload with
    | .failed reason => s.poison k sh.thread now [] (some sh.tag) reason
    | .taken u s1 =>
      s1.setSlot k (.assembling sh.thread now
        ((Assembly.begin_ expected).hold (sh.entry u) (if sh.last then some d else none)))

/-- The shard lies beyond a held L: it belongs to the thread's next parcel (01 R11 step 4). -/
def Assembly.beyondLast (a : Assembly) (p : Nat) : Bool := a.lastHeld.any (fun h => decide (h < p))

/-- The judgement of a shard in ASSEMBLING, in the order of 01 R11. -/
def State.judgeAssembling (s : State) (k : SlotId) (a : Assembly) (sh : DataShard) : State :=
  let cfg := (s.thread sh.thread).active
  let now := s.aging.periodNo
  let d := distance sh.seq a.expected
  let p := position sh.seq a.parcelStart
  let skip := skipTagOf a.parcelTag sh.tag
  if 128 ≤ d then s.bumpDrop .behind
  else if cfg.window < d then s.poison k sh.thread now a.units skip .window
  else if d ≠ 0 ∧ a.early.any (fun e => e.seq == sh.seq) = true then s.bumpDrop .duplicate
  else if a.beyondLast p then
    if cfg.retain then
      match s.claim cfg.cls sh.payload with
      | .failed reason => s.poison k sh.thread now a.units skip reason
      | .taken u s1 => s1.setSlot k (.assembling sh.thread now (a.hold (sh.entry u) a.lastHeld))
    else s.dropOrphan sh.thread
  else if cfg.limit ≤ p then s.poison k sh.thread now a.units skip .overlong
  else if sh.last && !fillInRange sh.fill then s.poison k sh.thread now a.units skip .framing
  else
    match s.claim cfg.cls sh.payload with
    | .failed reason => s.poison k sh.thread now a.units skip reason
    | .taken u s1 =>
      if d = 0 then s1.placeAndDrain k sh.thread now a (sh.entry u)
      else s1.setSlot k (.assembling sh.thread now (a.hold (sh.entry u) (if sh.last then some p else a.lastHeld)))

/-- A skip that ends by an L, without a new parcel (02 R45). -/
def State.endSkip (s : State) (k : SlotId) (t : ThreadId) (expected : Seq) : State :=
  let s1 := s.signalParcelEnd t
  let cfg := (s1.thread t).active
  if cfg.retain && cfg.enabled then (s1.setSlot k (.resting t s.aging.periodNo expected)).reportSlot
  else (s1.freeSlot k t).reportSlot

/-- A skip that ends at a shard carrying F: the poisoned parcel ends, and the shard starts a parcel, or is dropped as
DISABLED where the configuration now in force clears enabled (02 R46). -/
def State.endSkipOnF (s : State) (k : SlotId) (sh : DataShard) : State :=
  let s1 := s.signalParcelEnd sh.thread
  if (s1.thread sh.thread).active.enabled then s1.startParcel k sh
  else ((s1.freeSlot k sh.thread).reportSlot).bumpDrop .disabled

/-- The judgement of a shard in SKIPPING, by its tag and marks (02 R44). -/
def State.judgeSkipping (s : State) (k : SlotId) (skipTag : Option Tag) (sh : DataShard) : State :=
  if skipTag = some sh.tag then
    if sh.last then (s.bumpDrop .skipped).endSkip k sh.thread (sh.seq + 1) else s.bumpDrop .skipped
  else if sh.first then s.endSkipOnF k sh
  else if skipTag = none ∧ sh.last = true then (s.bumpDrop .skipped).endSkip k sh.thread (sh.seq + 1)
  else s.bumpDrop .skipped

/-- The Slot Table takes a data shard: the bound slot's stamp is refreshed and the shard judged by the slot's state
(01 R8). -/
def State.takeShard (s : State) (sh : DataShard) : State :=
  match s.boundSlot sh.thread with
  | none => s.takeUnbound sh
  | some k =>
    let s1 := s.setSlot k ((s.slot k).restamp s.aging.periodNo)
    match s.slot k with
    | .free => s.takeUnbound sh
    | .resting _ _ expected => s1.judgeResting k expected sh
    | .assembling _ _ a => s1.judgeAssembling k a sh
    | .skipping _ _ skipTag _ => s1.judgeSkipping k skipTag sh

end Sys2Proof.Machine
end

