-- ==== Sys2Proof/Machine/Restart.lean ====
section
/-! DEFINITION. The three resets: RESETN (09 R140), and the blocks' parts of RESTART TRAFFIC and RESTART FULL in their order (09 R146 to R148). -/

namespace Sys2Proof.Machine

/-- Every block takes its RESETN values at once. The octets of the store units stay as they were (04 R64); the commands
waiting outside the part and the index of the next free value are no state of the part. -/
def State.resetAll (s : State) : State :=
  { State.reset with
    pending := s.pending
    freeIndex := s.freeIndex
    store := { State.reset.store with octets := s.store.octets } }

/-- Step 2 of a restart: the scan abandoned, the period number 0, a new period begun at the PERIOD setting (05 R90). -/
def Aging.restart (a : Aging) : Aging :=
  { a with timer := some a.period, periodNo := 0, cursor := none, expiryPending := false }

/-- An entry of the Thread Map after RESTART TRAFFIC: a pending configuration applied, the binding none (03 R59). -/
def ThreadEntry.restart (e : ThreadEntry) : ThreadEntry := { e.endParcel with binding := none }

/-- Step 3 of RESTART TRAFFIC: every slot FREE, the parcel ends signalled, the bindings cleared; the reports of the slots
that were ASSEMBLING or SKIPPING are taken later (09 R147, 03 R59). -/
def State.restartSlots (s : State) : State :=
  { s with
    slotReports := s.slotReports + s.busySlots
    slots := Vector.replicate 96 Slot.free
    threads := s.threads.map ThreadEntry.restart }

/-- Step 3 of RESTART FULL: as for TRAFFIC, but every entry takes the defaults (09 R148, 03 R50). -/
def State.restartSlotsFull (s : State) : State :=
  { s with
    slotReports := s.slotReports + s.busySlots
    slots := Vector.replicate 96 Slot.free
    threads := Vector.replicate 1024 ThreadEntry.default }

/-- Step 5 of RESTART TRAFFIC: the notice queue emptied and the lost-notice count 0 (10 R162). -/
def ReturnLink.restart (r : ReturnLink) : ReturnLink := { r with notices := [], lostNotices := 0 }

/-- Step 5 of RESTART FULL: the reply queue emptied too, the return sequence 0, every notice kind enabled (10 R162,
R153). -/
def ReturnLink.restartFull (r : ReturnLink) : ReturnLink :=
  { r.restart with replies := [], sequence := 0, noticeMask := 0x7FFF }

/-- Steps 1 to 6 of RESTART TRAFFIC (09 R146). -/
def State.restartTraffic (s : State) : State :=
  let s1 := laneIds.foldl State.restartLane s
  let s2 := { s1 with aging := s1.aging.restart }
  let s3 := s2.restartSlots
  let s4 := s3.rebuildStore
  { s4 with ret := s4.ret.restart, mode := .init }

/-- The settings' defaults that RESTART FULL restores, but for PERIOD, which step 2 restores before it begins the new
period, and NOTICE_MASK, which step 5 restores (09 R148, 11 11.6). -/
def State.restoreDefaults (s : State) : State :=
  { s with
    controller := 0
    store := { s.store with
      classes := s.store.classes.map (fun a => { a with quota := 2048, warn := 1536 })
      hysteresis := 256 }
    lanes := s.lanes.map (fun l => { l with stallLimit := 100 })
    engine := { s.engine with drainLimit := 500 } }

/-- Steps 1 to 6 of RESTART FULL: the full-restart hold set first, then the steps of RESTART TRAFFIC with the
differences of 09 R148; the counters and the orphan tally are 0 after the restart's own increments (10 R158, R161). -/
def State.restartFull (s : State) : State :=
  let s0 := { s with ret := { s.ret with fullRestartHold := true } }
  let s1 := laneIds.foldl State.restartLane s0
  let s2 := { s1 with aging := { s1.aging with period := 1000 }.restart }
  let s3 := s2.restartSlotsFull
  let s4 := s3.rebuildStore.restoreDefaults
  { s4 with
    ret := s4.ret.restartFull
    mode := .init
    counters := Counters.zero
    orphanTally := 0
    engine := { s4.engine with queue := [] } }

end Sys2Proof.Machine
end

