-- ==== Sys2Proof/Machine/Engine.lean ====
section
/-! DEFINITION. The Management Engine: what each request does when it is taken (08 8.4 to 8.12), the taking of requests (R122), their arrival (R121), and the drain (R133 to R136). -/

namespace Sys2Proof.Machine

/-! ## Replies -/

/-- Places of the reply queue that are occupied: by a waiting reply or by the reply reservation (08 8.1, R122). -/
def State.occupiedPlaces (s : State) : Nat := s.ret.replies.length + if s.engine.reserved then 1 else 0

/-- The reply to the request being carried out is queued, filling the reservation (08 R122, R123). -/
def State.answer (s : State) (r : Request) (status : Status) (result : ReplyResult) : State :=
  { s with engine := { s.engine with reserved := false } }.queueReply
    { number := r.number, code := r.code, status := status, result := result }

/-- A reply without result fields. -/
def State.decline (s : State) (r : Request) (status : Status) : State := s.answer r status .empty

/-! ## Settings (08 8.5) -/

/-- The content of a READ_SETTING reply (08 R125, 04 R81), none for an index outside 0–19. -/
def State.settingContent (s : State) (index : Nat) : Option ReplyResult :=
  match index with
  | 0 => some (.ident 0x3208 0x01)
  | 1 => some (.deviceStatus s.mode s.aging.periodNo s.aging.cursor.isSome s.engine.inProgress.isSome
                s.engine.queue.length)
  | 2 => some (.value (BitVec.ofNat 16 s.controller.val))
  | 3 => some (.value (BitVec.ofNat 16 s.aging.period))
  | 4 => some (.value (BitVec.ofNat 16 s.engine.drainLimit))
  | 5 => some (.value (BitVec.ofNat 16 (s.cls 0).quota))
  | 6 => some (.value (BitVec.ofNat 16 (s.cls 1).quota))
  | 7 => some (.value (BitVec.ofNat 16 (s.cls 2).quota))
  | 8 => some (.value (BitVec.ofNat 16 (s.cls 3).quota))
  | 9 => some (.value (BitVec.ofNat 16 (s.cls 0).warn))
  | 10 => some (.value (BitVec.ofNat 16 (s.cls 1).warn))
  | 11 => some (.value (BitVec.ofNat 16 (s.cls 2).warn))
  | 12 => some (.value (BitVec.ofNat 16 (s.cls 3).warn))
  | 13 => some (.value (BitVec.ofNat 16 s.store.hysteresis))
  | 14 => some (.value s.ret.noticeMask)
  | 15 => some (.value (BitVec.ofNat 16 (s.lane 0).stallLimit))
  | 16 => some (.value (BitVec.ofNat 16 (s.lane 1).stallLimit))
  | 17 => some (.value (BitVec.ofNat 16 (s.lane 2).stallLimit))
  | 18 => some (.value (BitVec.ofNat 16 (s.lane 3).stallLimit))
  | 19 => some (.occupancy s.store.freeList.length (s.store.classes.toList.map ClassAccount.usage)
                (s.slotCount .free) (s.slotCount .assembling) (s.slotCount .skipping) (s.slotCount .resting))
  | _ => none

/-- READ_SETTING (08 R125). -/
def State.doReadSetting (s : State) (r : Request) : State :=
  match s.settingContent (r.octet 3).toNat with
  | some content => s.answer r .done content
  | none => s.decline r .unknown

/-- A write of CONTROLLER (07 R114, 08 R126). -/
def State.doWriteController (s : State) (r : Request) (v : BitVec 16) : State :=
  if v.toNat ≤ 63 then { s with controller := Fin.ofNat 64 v.toNat }.answer r .done (.value v)
  else s.decline r .range

/-- A write of PERIOD: the period in progress keeps its length (05 R89). -/
def State.doWritePeriod (s : State) (r : Request) (v : BitVec 16) : State :=
  if 1 ≤ v.toNat then { s with aging := { s.aging with period := v.toNat } }.answer r .done (.value v)
  else s.decline r .range

/-- A write of DRAIN_LIMIT (08 R126). -/
def State.doWriteDrainLimit (s : State) (r : Request) (v : BitVec 16) : State :=
  if 1 ≤ v.toNat then { s with engine := { s.engine with drainLimit := v.toNat } }.answer r .done (.value v)
  else s.decline r .range

/-- A write of QUOTAc (04 R75). -/
def State.doWriteQuota (s : State) (r : Request) (c : ClassId) (v : BitVec 16) : State :=
  if v.toNat ≤ 8192 ∧ (s.cls c).warn ≤ v.toNat then
    (s.setCls c { s.cls c with quota := v.toNat }).answer r .done (.value v)
  else s.decline r .range

/-- A write of WARNc, with the re-judgement of the class (04 R76). -/
def State.doWriteWarn (s : State) (r : Request) (c : ClassId) (v : BitVec 16) : State :=
  if v.toNat ≤ 8192 ∧ v.toNat ≤ (s.cls c).quota then
    ((s.setCls c { s.cls c with warn := v.toNat }).rejudge c).answer r .done (.value v)
  else s.decline r .range

/-- A write of HYSTERESIS, with the re-judgement of all four classes in order (04 R77). -/
def State.doWriteHysteresis (s : State) (r : Request) (v : BitVec 16) : State :=
  if v.toNat ≤ 1024 then
    (classIds.foldl State.rejudge { s with store := { s.store with hysteresis := v.toNat } }).answer r .done (.value v)
  else s.decline r .range

/-- A write of NOTICE_MASK: bit 15 names no kind (11 R164, 08 R126). -/
def State.doWriteNoticeMask (s : State) (r : Request) (v : BitVec 16) : State :=
  if v.getLsbD 15 = false then { s with ret := { s.ret with noticeMask := v } }.answer r .done (.value v)
  else s.decline r .range

/-- A write of STALLn: it governs later starts of the timer (06 R99). -/
def State.doWriteStall (s : State) (r : Request) (n : LaneId) (v : BitVec 16) : State :=
  (s.setLane n { s.lane n with stallLimit := v.toNat }).answer r .done (.value v)

/-- WRITE_SETTING: an unknown index, a read-only setting, or the setting's own rule (08 R126). -/
def State.doWriteSetting (s : State) (r : Request) : State :=
  let v := r.field 4
  match (r.octet 3).toNat with
  | 0 => s.decline r .readOnly
  | 1 => s.decline r .readOnly
  | 2 => s.doWriteController r v
  | 3 => s.doWritePeriod r v
  | 4 => s.doWriteDrainLimit r v
  | 5 => s.doWriteQuota r 0 v
  | 6 => s.doWriteQuota r 1 v
  | 7 => s.doWriteQuota r 2 v
  | 8 => s.doWriteQuota r 3 v
  | 9 => s.doWriteWarn r 0 v
  | 10 => s.doWriteWarn r 1 v
  | 11 => s.doWriteWarn r 2 v
  | 12 => s.doWriteWarn r 3 v
  | 13 => s.doWriteHysteresis r v
  | 14 => s.doWriteNoticeMask r v
  | 15 => s.doWriteStall r 0 v
  | 16 => s.doWriteStall r 1 v
  | 17 => s.doWriteStall r 2 v
  | 18 => s.doWriteStall r 3 v
  | 19 => s.decline r .readOnly
  | _ => s.decline r .unknown

/-! ## Threads (03) -/

/-- The thread a 16-bit operand names, if it is one (03 R53). -/
def threadOperand (v : BitVec 16) : Option ThreadId :=
  if h : v.toNat < 1024 then some ⟨v.toNat, h⟩ else none

/-- The state of the slot that serves a thread, FREE where it is unbound (03 R62). -/
def State.threadSlotState (s : State) (t : ThreadId) : SlotState :=
  match s.boundSlot t with
  | none => .free
  | some k => (s.slot k).state

/-- READ_THREAD: a snapshot of the entry and the slot state (03 R62). -/
def State.doReadThread (s : State) (r : Request) : State :=
  match threadOperand (r.field 3) with
  | none => s.decline r .range
  | some t =>
    s.answer r .done
      (.thread (s.thread t).active (s.thread t).pending (s.thread t).binding (s.threadSlotState t))

/-- A class or lane operand, 0–3. -/
def fourOperand (b : Byte) : Option (Fin 4) :=
  if h : b.toNat < 4 then some ⟨b.toNat, h⟩ else none

/-- The configuration of a WRITE_THREAD's operands, if every one is in range (03 R53). -/
def configOperands (r : Request) : Option ThreadConfig :=
  match yesNo (r.octet 5), fourOperand (r.octet 6), fourOperand (r.octet 7), yesNo (r.octet 11), yesNo (r.octet 12) with
  | some enabled, some c, some n, some retain, some verify =>
    if 1 ≤ (r.octet 8).toNat ∧ (r.octet 8).toNat ≤ 160 ∧ (r.octet 9).toNat ≤ 15 ∧ 1 ≤ (r.octet 10).toNat then
      some { enabled := enabled, cls := c, lane := n, limit := (r.octet 8).toNat, window := (r.octet 9).toNat,
             timeout := (r.octet 10).toNat, retain := retain, verify := verify }
    else none
  | _, _, _, _, _ => none

/-- A write that becomes the active configuration at once (03 R54). -/
def State.writeActive (s : State) (t : ThreadId) (c : ThreadConfig) : State :=
  s.setThread t { s.thread t with active := c }

/-- A write stored as the pending configuration, and the status it gives (03 R55). -/
def State.storePending (s : State) (r : Request) (t : ThreadId) (c : ThreadConfig) : State :=
  (s.setThread t { s.thread t with pending := some c }).decline r
    (if (s.thread t).pending.isSome then .replaced else .stored)

/-- A WRITE_THREAD whose operands are in range (03 R54, R55). -/
def State.writeThread (s : State) (r : Request) (t : ThreadId) (c : ThreadConfig) : State :=
  match s.boundSlot t with
  | none => (s.writeActive t c).decline r .done
  | some k =>
    match s.slot k with
    | .free => (s.writeActive t c).decline r .done
    | .resting _ _ _ =>
      if c.enabled && c.retain then (s.writeActive t c).decline r .done
      else ((s.writeActive t c).freeSlot k t).decline r .done
    | .assembling _ _ _ => s.storePending r t c
    | .skipping _ _ _ _ => s.storePending r t c

/-- WRITE_THREAD: range-checked, then applied at once or stored (03 R53). -/
def State.doWriteThread (s : State) (r : Request) : State :=
  match threadOperand (r.field 3), configOperands r with
  | some t, some c => s.writeThread r t c
  | _, _ => s.decline r .range

/-! ## Slots and CUT (08 8.6, 8.7) -/

/-- The snapshot of a slot record (08 R127, 01 R1). -/
def Slot.view : Slot → SlotView
  | .free =>
    { state := .free, thread := none, expected := none, parcelStart := none, parcelTag := none, placedUnits := 0,
      early := [], lastHeld := none, stamp := none, skipTag := none, reason := none }
  | .assembling t stamp a =>
    { state := .assembling, thread := some t, expected := some a.expected, parcelStart := some a.parcelStart,
      parcelTag := a.parcelTag, placedUnits := a.placed.length, early := a.early.map EarlyEntry.seq,
      lastHeld := a.lastHeld, stamp := some stamp, skipTag := none, reason := none }
  | .skipping t stamp skipTag reason =>
    { state := .skipping, thread := some t, expected := none, parcelStart := none, parcelTag := none, placedUnits := 0,
      early := [], lastHeld := none, stamp := some stamp, skipTag := skipTag, reason := some reason }
  | .resting t stamp expected =>
    { state := .resting, thread := some t, expected := some expected, parcelStart := none, parcelTag := none,
      placedUnits := 0, early := [], lastHeld := none, stamp := some stamp, skipTag := none, reason := none }

/-- READ_SLOT (08 R127). -/
def State.doReadSlot (s : State) (r : Request) : State :=
  if h : (r.octet 3).toNat < 96 then s.answer r .done (.slot (s.slot ⟨(r.octet 3).toNat, h⟩).view)
  else s.decline r .range

/-- The target threads of a CUT: the thread named, or the sixteen of the source named; none where the target code or the
id is out of range (08 R128). -/
def cutTargets (target : Byte) (id : BitVec 16) : Option (List ThreadId) :=
  match target.toNat with
  | 0 => (threadOperand id).map (fun t => [t])
  | 1 => if id.toNat < 64 then some ((List.finRange 16).map (threadOf (Fin.ofNat 64 id.toNat))) else none
  | _ => none

/-- CUT with SKIP on one thread: an ASSEMBLING slot is poisoned with CUT, any other left (08 R129). The count of parcels
cut goes along. -/
def State.cutSkipThread (p : State × Nat) (t : ThreadId) : State × Nat :=
  match p.1.boundSlot t with
  | none => p
  | some k =>
    match p.1.slot k with
    | .free => p
    | .resting _ _ _ => p
    | .skipping _ _ _ _ => p
    | .assembling t' stamp a => (p.1.poison k t' stamp a.units a.parcelTag .cut, p.2 + 1)

/-- The tag a notice takes from a slot: the parcel tag in ASSEMBLING, the skip tag in SKIPPING (05 R86, 08 R130). -/
def Slot.noticeTag : Slot → Option Tag
  | .free => none
  | .assembling _ _ a => a.parcelTag
  | .skipping _ _ skipTag _ => skipTag
  | .resting _ _ _ => none

/-- CUT with RELEASE on one thread: its slot freed, with a CUT notice and count where it held a parcel in progress
(08 R130). The counts of parcels cut and slots released go along. -/
def State.cutReleaseThread (p : State × Nat × Nat) (t : ThreadId) : State × Nat × Nat :=
  match p.1.boundSlot t with
  | none => p
  | some k =>
    let released := p.1.releaseSlot k
    if (p.1.slot k).busy then
      ((released.raise .cut (p.1.slot k).thread (p.1.slot k).noticeTag none none).bumpParcel .cut, p.2.1 + 1, p.2.2 + 1)
    else (released, p.2.1, p.2.2 + 1)

/-- The status of a CUT (08 R128). -/
def cutStatus (parcelsCut : Nat) : Status := if parcelsCut = 0 then .nothing else .done

/-- CUT: the slots of the target threads in increasing thread number, the judgement of R73 once, then the reply
(08 R128). -/
def State.doCut (s : State) (r : Request) : State :=
  match cutTargets (r.octet 3) (r.field 4), (r.octet 6).toNat with
  | some ts, 0 =>
    let p := ts.foldl State.cutSkipThread (s, 0)
    p.1.settleReturns.answer r (cutStatus p.2) (.cut p.2 0)
  | some ts, 1 =>
    let p := ts.foldl State.cutReleaseThread (s, 0, 0)
    p.1.settleReturns.answer r (cutStatus p.2.1) (.cut p.2.1 p.2.2)
  | _, _ => s.decline r .range

/-! ## LANE, OPEN, READ_COUNTERS (08 8.8, 8.9, 8.11) -/

/-- The reply to a LANE: the lane as it stands after the action, and the number flushed (08 R131). -/
def State.answerLane (s : State) (r : Request) (n : LaneId) (flushed : Nat) : State :=
  s.answer r .done (.lane (s.lane n).state (s.lane n).queue.length (s.lane n).credit flushed)

/-- LANE. The reports of R109 that these actions make find no drain in progress, since the engine takes a request only
in READY (08 R131). -/
def State.doLane (s : State) (r : Request) : State :=
  match fourOperand (r.octet 3), (r.octet 4).toNat with
  | some n, 0 => (s.setLane n (s.lane n).start).answerLane r n 0
  | some n, 1 => (s.setLane n (s.lane n).stop).answerLane r n 0
  | some n, 2 => (s.flushLane n).answerLane r n (s.lane n).queue.length
  | _, _ => s.decline r .range

/-- OPEN: the mode becomes RUN (08 R132). -/
def State.doOpen (s : State) (r : Request) : State := { s with mode := .run }.answer r .done (.mode .run)

/-- READ_COUNTERS: a group's counters, set to 0 after the reading where the clear flag is nonzero (08 R137). -/
def State.doReadCounters (s : State) (r : Request) : State :=
  let clear := decide (r.octet 5 ≠ 0)
  match (r.octet 3).toNat with
  | 0 =>
    (if clear then { s with counters := { s.counters with drops := Vector.replicate 12 0 } } else s).answer r .done
      (.counters s.counters.drops.toList)
  | 1 =>
    (if clear then { s with counters := { s.counters with parcels := Vector.replicate 11 0 } } else s).answer r .done
      (.counters s.counters.parcels.toList)
  | 2 =>
    match fourOperand (r.octet 4) with
    | none => s.decline r .range
    | some n =>
      (if clear then
        { s with counters := { s.counters with lanes := s.counters.lanes.set n.val (Vector.replicate 5 0) } }
       else s).answer r .done (.counters s.counters.lanes[n.val].toList)
  | 3 =>
    (if clear then { s with counters := { s.counters with device := Vector.replicate 4 0 } } else s).answer r .done
      (.counters s.counters.device.toList)
  | _ => s.decline r .range

/-! ## DRAIN (08 8.10) -/

/-- The close judgement: in CLOSING with no slot ASSEMBLING or SKIPPING the mode becomes CLOSED (09 R142, R143). -/
def State.judgeClose (s : State) : State :=
  if s.mode = .closing ∧ s.busySlots = 0 then { s with mode := .closed } else s

/-- The drain condition (08 R134). -/
def State.drainCondition (s : State) : Bool :=
  decide (s.mode = .closed) && laneIds.all (fun n => (s.lane n).settled)

/-- The result fields of a DRAIN reply, as they stand (08 R135, R136). -/
def State.drainResult (s : State) : ReplyResult := .drain s.mode s.busySlots s.laneDescriptors

/-- The drain begun: DONE at once where the condition holds, otherwise the engine WORKING with the timer running and the
reservation held (08 R133). -/
def State.beginDrain (s : State) (r : Request) : State :=
  if s.drainCondition then s.answer r .done s.drainResult
  else { s with engine := { s.engine with
           inProgress := some r, reserved := true, drainTimer := some s.engine.drainLimit } }

/-- DRAIN by the device mode (08 R133, 09 R142). No request is taken in STARTING (08 R120). -/
def State.doDrain (s : State) (r : Request) : State :=
  match s.mode with
  | .starting => s.decline r .refused
  | .init => s.decline r .refused
  | .run => ({ s with mode := .closing }.judgeClose).beginDrain r
  | .closing => s.judgeClose.beginDrain r
  | .closed => s.beginDrain r

/-! ## RESTART (08 8.12) -/

/-- RESTART: the blocks' parts, then the reply DONE without result fields (08 R138). -/
def State.doRestart (s : State) (r : Request) : State :=
  match (r.octet 3).toNat with
  | 0 => s.restartTraffic.decline r .done
  | 1 => s.restartFull.decline r .done
  | _ => s.decline r .range

/-! ## Taking requests (08 8.2, 8.3) -/

/-- The engine carries out a request by its code (08 R123). -/
def State.carryOut (s : State) (r : Request) : State :=
  match requestName r.code with
  | none => s.decline r .unknown
  | some .readSetting => s.doReadSetting r
  | some .writeSetting => s.doWriteSetting r
  | some .readThread => s.doReadThread r
  | some .writeThread => s.doWriteThread r
  | some .readSlot => s.doReadSlot r
  | some .cut => s.doCut r
  | some .lane => s.doLane r
  | some .openDevice => s.doOpen r
  | some .drain => s.doDrain r
  | some .readCounters => s.doReadCounters r
  | some .restart => s.doRestart r

/-- The conditions under which the engine takes the head of its queue: READY, a request waiting, a place of the reply
queue not occupied (08 R122), and start-up over (08 R120, 09 R140). -/
def State.canTake (s : State) : Bool :=
  decide (s.mode ≠ .starting) && s.engine.inProgress.isNone && !s.engine.queue.isEmpty &&
    decide (s.occupiedPlaces < Config.replyPlaces)

/-- The engine takes the head of its queue, holding the reply reservation (08 R122). -/
def State.takeHead (s : State) : State :=
  match s.engine.queue with
  | [] => s
  | r :: rest => { s with engine := { s.engine with queue := rest, reserved := true } }.carryOut r

/-- At most `n` requests taken one after another, while the conditions hold (08 R122). -/
def State.takeRequests : Nat → State → State
  | 0, s => s
  | n + 1, s => if s.canTake then State.takeRequests n s.takeHead else s

/-- The engine judges R122 and takes requests until the queue is empty, the reply places are occupied or a DRAIN leaves
it WORKING. Each request taken leaves the queue and none joins it in the step, so its length bounds their number. -/
def State.serve (s : State) : State := State.takeRequests s.engine.queue.length s

/-- A request arrives at the management queue: it joins the tail and the engine judges R122, or it is refused with
QUEUE_FULL, or lost (08 R121). A QUEUE_FULL reply that begins on an IDLE link frees its place, which the engine is told
of (10 R155). -/
def State.arrive (s : State) (r : Request) : State :=
  if s.engine.queue.length < Config.managementPlaces then
    { s with engine := { s.engine with queue := s.engine.queue ++ [r] } }.serve
  else if s.occupiedPlaces < Config.replyPlaces then
    let s1 := s.queueReply { number := r.number, code := r.code, status := .queueFull, result := .empty }
    if s.ret.onLink.isNone then s1.serve else s1
  else s.bumpDevice .mgmtLost

/-- A request of the controller reaches the part: while RESETN is asserted and in STARTING it is discarded
(07 R110, 08 R120), otherwise it arrives at the management queue (07 R113). -/
def State.requestArrives (s : State) (r : Request) : State :=
  if s.mode = .starting then s else s.arrive r

/-- The end of a drain in progress, with DONE or TIMEOUT: the timer stopped, the reply queued, the engine READY, and
R122 judged (08 R135, R136). -/
def State.endDrain (s : State) (r : Request) (status : Status) : State :=
  ({ s with engine := { s.engine with inProgress := none, drainTimer := none } }.answer r status s.drainResult).serve

/-- A report to the engine: a drain in progress ends with DONE where the drain condition now holds (08 R134, R135). -/
def State.drainReport (s : State) : State :=
  match s.engine.inProgress with
  | none => s
  | some r => if s.drainCondition then s.endDrain r .done else s

/-- A Lane Controller's report of a step that leaves it with an empty queue, neither SENDING nor STOPPING (06 R109). -/
def State.laneReport (s : State) (n : LaneId) : State := if (s.lane n).settled then s.drainReport else s

end Sys2Proof.Machine
end

