-- ==== Sys2Proof/Machine/Ingress.lean ====
section
/-! DEFINITION. The Ingress Gate: the fixed order of checks every arriving shard meets (07). -/

namespace Sys2Proof.Machine

/-- What the Ingress Gate makes of a shard: dropped and counted, a request for the management queue, or a data shard for
the Slot Table. -/
inductive Verdict
  | drop (c : DropCounter)
  | request (r : Request)
  | data (sh : DataShard)
  deriving DecidableEq, Repr

/-- The CLOSING gate: whether a data shard passes, by its thread's slot, its marks and its tag (07 R116). -/
def State.closingPasses (s : State) (sh : DataShard) : Bool :=
  match s.boundSlot sh.thread with
  | none => !sh.first
  | some k =>
    match s.slot k with
    | .free => !sh.first
    | .resting _ _ _ => false
    | .skipping _ _ skipTag _ => decide (skipTag = some sh.tag) || !sh.first
    | .assembling _ _ _ => true

/-- The mode gate of a data shard (07 R115). -/
def State.modePasses (s : State) (sh : DataShard) : Bool :=
  match s.mode with
  | .starting => false
  | .init => false
  | .run => true
  | .closing => s.closingPasses sh
  | .closed => false

/-- The judgement of a data shard: the mode gate, then the enabled check (07 R115 to R117). -/
def State.judgeData (s : State) (sh : DataShard) : Verdict :=
  if s.modePasses sh then
    if (s.thread sh.thread).active.enabled then .data sh else .drop .disabled
  else .drop .notRunning

/-- The Ingress Gate's judgement of a shard, after STARTING: header check, must-be-zero bits, kind, then the checks of
its kind (07 R111 to R117). -/
def State.judgeShard (s : State) (octets : List Byte) : Verdict :=
  let h := shardHeader octets
  if headerCheck (octets.take 6) ≠ h.check then .drop .header
  else if h.mustBeZero ≠ 0 then .drop .header
  else if h.kind = 0b01#2 then s.judgeData (dataShard h octets)
  else if h.kind = 0b10#2 then
    if h.source = s.controller then .request (requestOf (octets.drop 8)) else .drop .foreign
  else .drop .kind

/-- A shard is taken: discarded uncounted while RESETN is asserted and in STARTING (07 R110), otherwise judged and
dropped, handed to the Management Engine, or handed to the Slot Table, which ends the step with the judgement of R73. -/
def State.takeOctets (s : State) (octets : List Byte) : State :=
  if s.mode = .starting then s
  else
    match s.judgeShard octets with
    | .drop c => s.bumpDrop c
    | .request r => s.arrive r
    | .data sh => (s.takeShard sh).settleReturns

end Sys2Proof.Machine
end

