-- ==== Sys2Proof/Machine/Events.lean ====
section
/-! DEFINITION. The meanings of the twelve events of the opcode table: RESETN, start-up, shards, the close judgement, grants, and the ends of operations and timers. An event that cannot happen in a state leaves it as it is (log entry 4). -/

namespace Sys2Proof.Machine

/-- How every meaning ends. -/
abbrev Ending := Host.Outcome State Fault Refusal

/-- RESETN_ASSERT: the mode is STARTING and every block takes its RESETN values at once (09 R140, R149). -/
def execResetnAssert (s : State) : Ending := .next s.resetAll

/-- RESETN_RELEASE: start-up begins with the Parcel Store's build of the free list (09 R140, 04 R79). -/
def execResetnRelease (s : State) : Ending :=
  .next (if s.resetn then { s with resetn := false, building := true } else s)

/-- The end of start-up: the free list built, the mode INIT, STARTED raised, the period timer started (09 R141,
04 R79). -/
def State.endStartUp (s : State) : State :=
  let s1 := { s with building := false, mode := .init, store := { s.store with freeList := builtFreeList } }
  let s2 := s1.raise .started none none none none
  { s2 with aging := { s2.aging with timer := some s2.aging.period } }

/-- END_OF_START_UP (09 R141). -/
def execEndOfStartUp (s : State) : Ending := .next (if s.building then s.endStartUp else s)

/-- SHARD_ARRIVAL (07 R110 to R118). -/
def execShardArrival (octets : Vector Byte 64) (s : State) : Ending := .next (s.takeOctets octets.toList)

/-- Mode Control takes a report in CLOSING: with no slot ASSEMBLING or SKIPPING the mode becomes CLOSED, which is
reported to the engine (09 R143). -/
def State.takeReport (s : State) : State :=
  if s.mode = .closing ∧ s.busySlots = 0 then { s with mode := .closed }.drainReport else s

/-- CLOSE_JUDGEMENT: one slot report is taken (09 R143, R144). -/
def execCloseJudgement (s : State) : Ending :=
  .next (if s.slotReports = 0 then s else { s with slotReports := s.slotReports - 1 }.takeReport)

/-- GRANT: not taken in STARTING (06 R92), otherwise added to the credit (06 R98). -/
def execGrant (lane : LaneId) (word : BitVec 16) (s : State) : Ending :=
  .next (if s.mode = .starting then s else s.takeGrant lane (grantBlocks word))

/-- EMISSION_END: the current emission ends, and the lane's report follows (06 R97, R109). -/
def execEmissionEnd (lane : LaneId) (s : State) : Ending :=
  .next (match (s.lane lane).emission with
    | none => s
    | some d => (s.endEmission lane d).laneReport lane)

/-- The stall timer of a lane expires: only while the lane is WAITING with its timer running (06 R100). -/
def State.expireStall (s : State) (n : LaneId) : State :=
  if (s.lane n).state = .waiting ∧ (s.lane n).stallTimer.isSome = true then
    match (s.lane n).queue with
    | [] => s
    | d :: rest => (s.stallDiscard n d rest).laneReport n
  else s

/-- STALL_EXPIRY (06 R100). -/
def execStallExpiry (lane : LaneId) (s : State) : Ending := .next (s.expireStall lane)

/-- The scan started or owed at a period expiry (05 R83). -/
def State.oweScan (s : State) : State :=
  match s.aging.cursor with
  | none => { s with aging := { s.aging with cursor := some 0 } }
  | some _ =>
    if s.aging.expiryPending then s.bumpDevice .agingOverrun
    else { s with aging := { s.aging with expiryPending := true } }

/-- The period number advances and the next period begins at the PERIOD setting (05 R83). -/
def Aging.advance (a : Aging) : Aging := { a with periodNo := a.periodNo + 1, timer := some a.period }

/-- PERIOD_EXPIRY: only while the timer runs (05 R82, R83). -/
def execPeriodExpiry (s : State) : Ending :=
  .next (if s.aging.timer.isSome then { s with aging := s.aging.advance }.oweScan else s)

/-- The reap of a slot: released, counted and noticed with its age (05 R86). -/
def State.reap (s : State) (k : SlotId) (age : Nat) : State :=
  (((s.releaseSlot k).bumpParcel .reaped).raise .reaped (s.slot k).thread (s.slot k).noticeTag none
    (some (BitVec.ofNat 16 age))).settleReturns

/-- The age of a slot against the period number (00 3.4). -/
def State.ageOf (s : State) (stamp : PeriodNo) : Nat := (s.aging.periodNo - stamp).toNat

/-- A slot in progress judged for reaping by its thread's active timeout (05 R85). -/
def State.reapIfOld (s : State) (k : SlotId) (t : ThreadId) (stamp : PeriodNo) : State :=
  if (s.thread t).active.timeout ≤ s.ageOf stamp then s.reap k (s.ageOf stamp) else s

/-- The visit to a slot (05 R85). -/
def State.visit (s : State) (k : SlotId) : State :=
  match s.slot k with
  | .free => s
  | .resting _ _ _ => s
  | .assembling t stamp _ => s.reapIfOld k t stamp
  | .skipping t stamp _ _ => s.reapIfOld k t stamp

/-- The cursor after a visit: the next slot, or the end of the scan, which begins a new one where an expiry is pending
(05 R84). -/
def Aging.afterVisit (a : Aging) (k : SlotId) : Aging :=
  if h : k.val + 1 < 96 then { a with cursor := some ⟨k.val + 1, h⟩ }
  else if a.expiryPending then { a with cursor := some 0, expiryPending := false }
  else { a with cursor := none }

/-- SCAN_VISIT: only while a scan is in flight (05 R84, R85). -/
def execScanVisit (s : State) : Ending :=
  .next (match s.aging.cursor with
    | none => s
    | some k =>
      let s1 := s.visit k
      { s1 with aging := s1.aging.afterVisit k })

/-- DRAIN_TIMER_EXPIRY: a drain in progress ends with TIMEOUT (08 R136). -/
def execDrainTimerExpiry (s : State) : Ending :=
  .next (match s.engine.inProgress, s.engine.drainTimer with
    | some r, some _ => s.endDrain r .timeout
    | _, _ => s)

/-- The end of a return shard: the link is IDLE and the arbiter chooses again; a reply that begins frees its place, and
the engine judges R122 (10 R151, R152, R155). -/
def State.endReturnShard (s : State) : State :=
  let s1 := { s with ret := { s.ret with onLink := none } }.arbitrate
  match s1.ret.onLink with
  | some ⟨_, .reply _⟩ => s1.serve
  | some ⟨_, .notice _⟩ => s1
  | some ⟨_, .congestion _ _⟩ => s1
  | none => s1

/-- RETURN_SHARD_END (10 R151). -/
def execReturnShardEnd (s : State) : Ending := .next (if s.ret.onLink.isSome then s.endReturnShard else s)

end Sys2Proof.Machine
end

