-- ==== Sys2Proof/Machine/Requests.lean ====
section
/-! DEFINITION. The meanings of the request rows of the opcode table: each is its request, with the operand octets of 11 R164, arriving from the controller at the management queue (08 R121, log entry 3). What the request does when the engine takes it is in Machine/Engine.lean. -/

namespace Sys2Proof.Machine

/-- READ_SETTING (08 R125). -/
def execReadSetting (number : BitVec 16) (index : Byte) (s : State) : Host.Outcome State Fault Refusal :=
  .next (s.requestArrives (requestWith number 0x01 [index]))

/-- A WRITE_SETTING request of an index and a 16-bit value (11 R164). -/
def writeSettingRequest (number : BitVec 16) (index : Nat) (value : BitVec 16) : Request :=
  requestWith number 0x02 (BitVec.ofNat 8 index :: fieldOctets value)

/-- WRITE_SETTING (08 R126). -/
def execWriteSetting (number : BitVec 16) (index : Byte) (value : BitVec 16) (s : State) :
    Host.Outcome State Fault Refusal :=
  .next (s.requestArrives (writeSettingRequest number index.toNat value))

/-- WRITE_SETTING of CONTROLLER, index 2 (07 R114). -/
def execWriteController (number value : BitVec 16) (s : State) : Host.Outcome State Fault Refusal :=
  .next (s.requestArrives (writeSettingRequest number 2 value))

/-- WRITE_SETTING of PERIOD, index 3 (05 R89). -/
def execWritePeriod (number value : BitVec 16) (s : State) : Host.Outcome State Fault Refusal :=
  .next (s.requestArrives (writeSettingRequest number 3 value))

/-- WRITE_SETTING of QUOTAc, indices 5–8 (04 R75). -/
def execWriteQuota (number : BitVec 16) (cls : ClassId) (value : BitVec 16) (s : State) :
    Host.Outcome State Fault Refusal :=
  .next (s.requestArrives (writeSettingRequest number (5 + cls.val) value))

/-- WRITE_SETTING of WARNc, indices 9–12 (04 R76). -/
def execWriteWarn (number : BitVec 16) (cls : ClassId) (value : BitVec 16) (s : State) :
    Host.Outcome State Fault Refusal :=
  .next (s.requestArrives (writeSettingRequest number (9 + cls.val) value))

/-- WRITE_SETTING of HYSTERESIS, index 13 (04 R77). -/
def execWriteHysteresis (number value : BitVec 16) (s : State) : Host.Outcome State Fault Refusal :=
  .next (s.requestArrives (writeSettingRequest number 13 value))

/-- WRITE_SETTING of STALLn, indices 15–18 (06 R99). -/
def execWriteStall (number : BitVec 16) (lane : LaneId) (value : BitVec 16) (s : State) :
    Host.Outcome State Fault Refusal :=
  .next (s.requestArrives (writeSettingRequest number (15 + lane.val) value))

/-- READ_THREAD (03 R62). -/
def execReadThread (number thread : BitVec 16) (s : State) : Host.Outcome State Fault Refusal :=
  .next (s.requestArrives (requestWith number 0x03 (fieldOctets thread)))

/-- WRITE_THREAD (03 R53). -/
def execWriteThread (number thread : BitVec 16) (enabled cls lane limit window timeout retain verify : Byte)
    (s : State) : Host.Outcome State Fault Refusal :=
  .next (s.requestArrives (requestWith number 0x04
    (fieldOctets thread ++ [enabled, cls, lane, limit, window, timeout, retain, verify])))

/-- READ_SLOT (08 R127). -/
def execReadSlot (number : BitVec 16) (slot : Byte) (s : State) : Host.Outcome State Fault Refusal :=
  .next (s.requestArrives (requestWith number 0x05 [slot]))

/-- CUT with disposition SKIP (08 R129). -/
def execCutSkip (number : BitVec 16) (target : Byte) (id : BitVec 16) (s : State) :
    Host.Outcome State Fault Refusal :=
  .next (s.requestArrives (requestWith number 0x06 (target :: fieldOctets id ++ [0x00])))

/-- CUT with disposition RELEASE (08 R130). -/
def execCutRelease (number : BitVec 16) (target : Byte) (id : BitVec 16) (s : State) :
    Host.Outcome State Fault Refusal :=
  .next (s.requestArrives (requestWith number 0x06 (target :: fieldOctets id ++ [0x01])))

/-- LANE START (06 R102). -/
def execLaneStart (number : BitVec 16) (lane : Byte) (s : State) : Host.Outcome State Fault Refusal :=
  .next (s.requestArrives (requestWith number 0x07 [lane, 0x00]))

/-- LANE STOP (06 R103). -/
def execLaneStop (number : BitVec 16) (lane : Byte) (s : State) : Host.Outcome State Fault Refusal :=
  .next (s.requestArrives (requestWith number 0x07 [lane, 0x01]))

/-- LANE FLUSH (06 R104). -/
def execLaneFlush (number : BitVec 16) (lane : Byte) (s : State) : Host.Outcome State Fault Refusal :=
  .next (s.requestArrives (requestWith number 0x07 [lane, 0x02]))

/-- OPEN (08 R132). -/
def execOpenDevice (number : BitVec 16) (s : State) : Host.Outcome State Fault Refusal :=
  .next (s.requestArrives (requestWith number 0x08 []))

/-- DRAIN (08 R133). -/
def execDrain (number : BitVec 16) (s : State) : Host.Outcome State Fault Refusal :=
  .next (s.requestArrives (requestWith number 0x09 []))

/-- READ_COUNTERS (08 R137). -/
def execReadCounters (number : BitVec 16) (group lane clear : Byte) (s : State) : Host.Outcome State Fault Refusal :=
  .next (s.requestArrives (requestWith number 0x0A [group, lane, clear]))

/-- RESTART TRAFFIC (09 R146). -/
def execRestartTraffic (number : BitVec 16) (s : State) : Host.Outcome State Fault Refusal :=
  .next (s.requestArrives (requestWith number 0x0B [0x00]))

/-- RESTART FULL (09 R148). -/
def execRestartFull (number : BitVec 16) (s : State) : Host.Outcome State Fault Refusal :=
  .next (s.requestArrives (requestWith number 0x0B [0x01]))

/-- A request with a code of its own (08 R123). -/
def execUnknownRequest (number : BitVec 16) (code : Byte) (s : State) : Host.Outcome State Fault Refusal :=
  .next (s.requestArrives (requestWith number code []))

end Sys2Proof.Machine
end

