-- ==== Sys2Proof/Machine/Dispatch.lean ====
section
/-! DEFINITION. One arm per command of the opcode table. -/

namespace Sys2Proof.Machine

-- The meaning of a command: its effect on everything but the queue of waiting commands.
def exec (i : Instr) (s : State) : Host.Outcome State Fault Refusal :=
  match i with
  | .resetnAssert => Sys2Proof.Machine.execResetnAssert s
  | .resetnRelease => Sys2Proof.Machine.execResetnRelease s
  | .endOfStartUp => Sys2Proof.Machine.execEndOfStartUp s
  | .shardArrival octets => Sys2Proof.Machine.execShardArrival octets s
  | .closeJudgement => Sys2Proof.Machine.execCloseJudgement s
  | .grant lane word => Sys2Proof.Machine.execGrant lane word s
  | .emissionEnd lane => Sys2Proof.Machine.execEmissionEnd lane s
  | .stallExpiry lane => Sys2Proof.Machine.execStallExpiry lane s
  | .periodExpiry => Sys2Proof.Machine.execPeriodExpiry s
  | .scanVisit => Sys2Proof.Machine.execScanVisit s
  | .drainTimerExpiry => Sys2Proof.Machine.execDrainTimerExpiry s
  | .returnShardEnd => Sys2Proof.Machine.execReturnShardEnd s
  | .readSetting number index => Sys2Proof.Machine.execReadSetting number index s
  | .writeSetting number index value => Sys2Proof.Machine.execWriteSetting number index value s
  | .writeController number value => Sys2Proof.Machine.execWriteController number value s
  | .writePeriod number value => Sys2Proof.Machine.execWritePeriod number value s
  | .writeQuota number cls value => Sys2Proof.Machine.execWriteQuota number cls value s
  | .writeWarn number cls value => Sys2Proof.Machine.execWriteWarn number cls value s
  | .writeHysteresis number value => Sys2Proof.Machine.execWriteHysteresis number value s
  | .writeStall number lane value => Sys2Proof.Machine.execWriteStall number lane value s
  | .readThread number thread => Sys2Proof.Machine.execReadThread number thread s
  | .writeThread number thread e c l m w o r v => Sys2Proof.Machine.execWriteThread number thread e c l m w o r v s
  | .readSlot number slot => Sys2Proof.Machine.execReadSlot number slot s
  | .cutSkip number target id => Sys2Proof.Machine.execCutSkip number target id s
  | .cutRelease number target id => Sys2Proof.Machine.execCutRelease number target id s
  | .laneStart number lane => Sys2Proof.Machine.execLaneStart number lane s
  | .laneStop number lane => Sys2Proof.Machine.execLaneStop number lane s
  | .laneFlush number lane => Sys2Proof.Machine.execLaneFlush number lane s
  | .openDevice number => Sys2Proof.Machine.execOpenDevice number s
  | .drain number => Sys2Proof.Machine.execDrain number s
  | .readCounters number group lane clear => Sys2Proof.Machine.execReadCounters number group lane clear s
  | .restartTraffic number => Sys2Proof.Machine.execRestartTraffic number s
  | .restartFull number => Sys2Proof.Machine.execRestartFull number s
  | .unknownRequest number code => Sys2Proof.Machine.execUnknownRequest number code s

end Sys2Proof.Machine
end

