-- ==== Sys2Proof/Machine/Formats.lean ====
section
/-! DEFINITION. The octets of the return shards (11 R165): what the controller reads of a shard on the return link. -/

namespace Sys2Proof.Machine

/-- The four octets of a counter, most significant first (11 R165). -/
def counterOctets (v : BitVec 32) : List Byte :=
  [v.extractLsb' 24 8, v.extractLsb' 16 8, v.extractLsb' 8 8, v.extractLsb' 0 8]

/-- A number as one octet. -/
def octetOf (n : Nat) : Byte := BitVec.ofNat 8 n

/-- A number as a two-octet field. -/
def fieldOf (n : Nat) : List Byte := fieldOctets (BitVec.ofNat 16 n)

/-- A yes/no value as an octet (11 R164). -/
def yesNoOctet (b : Bool) : Byte := if b then 1 else 0

/-- The device mode codes. STARTING has none and is never reported (09 R150); it is given 0x00 (log entry 12). -/
def Mode.code : Mode → Nat
  | .starting => 0
  | .init => 1
  | .run => 2
  | .closing => 3
  | .closed => 4

/-- The slot state codes. -/
def SlotState.code : SlotState → Nat
  | .free => 0
  | .assembling => 1
  | .skipping => 2
  | .resting => 3

/-- The lane state codes. -/
def LaneState.code : LaneState → Nat
  | .stopped => 0
  | .idle => 1
  | .waiting => 2
  | .sending => 3
  | .stopping => 4

/-- The status codes. -/
def Status.code : Status → Nat
  | .done => 0
  | .stored => 1
  | .replaced => 2
  | .nothing => 3
  | .refused => 4
  | .range => 5
  | .readOnly => 6
  | .unknown => 7
  | .queueFull => 8
  | .timeout => 9

/-- A binding: the slot number, 0xFF for none. -/
def bindingOctet : Option SlotId → Byte
  | none => 0xFF
  | some k => octetOf k.val

/-- A configuration in the order of the WRITE_THREAD operands from enabled to verify. -/
def ThreadConfig.octets (c : ThreadConfig) : List Byte :=
  [yesNoOctet c.enabled, octetOf c.cls.val, octetOf c.lane.val, octetOf c.limit, octetOf c.window, octetOf c.timeout,
   yesNoOctet c.retain, yesNoOctet c.verify]

/-- A pending configuration: present 0x01 and its octets, or 0x00 throughout. -/
def pendingOctets : Option ThreadConfig → List Byte
  | none => List.replicate 9 0
  | some c => 1 :: c.octets

/-- Octets filled up with 0x00 to a length. -/
def padTo (n : Nat) (octets : List Byte) : List Byte := octets ++ List.replicate (n - octets.length) 0

/-- A presence bit at a bit position. -/
def presenceBit (bit : Nat) (present : Bool) : Byte := if present then 1#8 <<< bit else 0

/-- The presence bits of a READ_SLOT reply. -/
def SlotView.presence (v : SlotView) : Byte :=
  presenceBit 0 v.thread.isSome ||| presenceBit 1 v.expected.isSome ||| presenceBit 2 v.parcelStart.isSome |||
    presenceBit 3 v.parcelTag.isSome ||| presenceBit 4 v.lastHeld.isSome ||| presenceBit 5 v.stamp.isSome |||
    presenceBit 6 v.skipTag.isSome ||| presenceBit 7 v.reason.isSome

/-- The result octets of a READ_SLOT reply, from octet 6. That the octets of the early list past the early-units count are
0x00 is the model's choice: 11 R165 calls only the first early-units octets meaningful and gives the rest no value
(log entry 21). -/
def SlotView.octets (v : SlotView) : List Byte :=
  [octetOf v.state.code, v.presence] ++ fieldOf ((v.thread.map Fin.val).getD 0) ++
    [v.expected.getD 0, v.parcelStart.getD 0] ++ fieldOctets (v.parcelTag.getD 0) ++
    [octetOf v.placedUnits, octetOf v.early.length] ++ padTo 15 v.early ++ [octetOf (v.lastHeld.getD 0)] ++
    fieldOctets (v.stamp.getD 0) ++ fieldOctets (v.skipTag.getD 0) ++
    [octetOf ((v.reason.map (fun r => r.notice.code)).getD 0)]

/-- The result octets of a reply, from octet 6. -/
def ReplyResult.octets : ReplyResult → List Byte
  | .empty => []
  | .value v => fieldOctets v
  | .ident family revision => fieldOctets family ++ [revision]
  | .deviceStatus m periodNo scanning working queued =>
    [octetOf m.code] ++ fieldOctets periodNo ++ [yesNoOctet scanning, yesNoOctet working, octetOf queued]
  | .occupancy free usages f a k r =>
    fieldOf free ++ usages.flatMap fieldOf ++ [octetOf f, octetOf a, octetOf k, octetOf r]
  | .thread active pending binding slotState =>
    active.octets ++ pendingOctets pending ++ [bindingOctet binding, octetOf slotState.code]
  | .slot view => view.octets
  | .cut parcelsCut slotsReleased => [octetOf parcelsCut, octetOf slotsReleased]
  | .lane state queued credit flushed => [octetOf state.code, octetOf queued] ++ fieldOf credit ++ [octetOf flushed]
  | .mode m => [octetOf m.code]
  | .drain m busySlots descriptors => [octetOf m.code, octetOf busySlots] ++ fieldOf descriptors
  | .counters values => values.flatMap counterOctets

/-- The octets of a reply, from octet 2. -/
def Reply.octets (r : Reply) : List Byte :=
  fieldOctets r.number ++ [r.code, octetOf r.status.code] ++ r.result.octets

/-- The octets of a notice, from octet 2. -/
def Notice.octets (n : Notice) : List Byte :=
  [octetOf n.kind.code,
   presenceBit 0 n.thread.isSome ||| presenceBit 1 n.tag.isSome ||| presenceBit 2 n.lane.isSome |||
     presenceBit 3 n.count.isSome] ++
    fieldOf ((n.thread.map Fin.val).getD 0) ++ fieldOctets (n.tag.getD 0) ++
    [octetOf ((n.lane.map Fin.val).getD 0)] ++ fieldOctets (n.count.getD 0) ++ fieldOctets n.periodNo ++
    fieldOf n.lostBefore

/-- The class flags octet: bit c set while class c is CONGESTED. -/
def flagsOctet (flags : List Bool) : Byte :=
  presenceBit 0 (flags.getD 0 false) ||| presenceBit 1 (flags.getD 1 false) ||| presenceBit 2 (flags.getD 2 false) |||
    presenceBit 3 (flags.getD 3 false)

/-- The return kind code and the octets from octet 2 of a return shard's content. -/
def ReturnContent.octets : ReturnContent → Byte × List Byte
  | .reply r => (1, r.octets)
  | .notice n => (2, n.octets)
  | .congestion flags usages => (3, flagsOctet flags :: usages.flatMap fieldOf)

/-- The 64 octets of a return shard: kind, return sequence, content, and 0x00 wherever no table assigns an octet
(11 R165). -/
def ReturnShard.octets (r : ReturnShard) : List Byte :=
  padTo 64 (r.content.octets.1 :: r.sequence :: r.content.octets.2)

/-- The octets of the shard on the return link, none while the link is IDLE. -/
def State.returnOctets (s : State) : Option (List Byte) := s.ret.onLink.map ReturnShard.octets

end Sys2Proof.Machine
end

