-- ==== Sys2Proof/Safety.lean ====
section
/-! DEFINITION. What a sound state of the WB3208 is between two steps: the laws the data book says the part keeps, and the ranges its tables give. Claims name these predicates; Sys2Proof/Certificates/Slice0/Obligations.lean states that every step keeps them. -/

namespace Sys2Proof.Machine

/-! ## Parcel Store -/

/-- The octets of the store units are in canonical form. -/
def State.memoryLaw (s : State) : Prop := Memory.wf s.store.octets = true

/-- For each class the warn level never exceeds the quota (04 R69), and both lie in the ranges of 11 11.6. -/
def State.quotaLaw (s : State) : Prop :=
  ∀ c : ClassId, (s.cls c).warn ≤ (s.cls c).quota ∧ (s.cls c).quota ≤ 8192

/-- Between steps no judgement of R73 is owed, and each class stands as the judgements of 04 R72, R73 and R78 leave it:
a CLEAR class is below its warn level or holds nothing, a CONGESTED class is above its clear level or at least at its warn
level. -/
def State.congestionLaw (s : State) : Prop :=
  ∀ c : ClassId, (s.cls c).fallOwed = false ∧
    ((s.cls c).congested = false → (s.cls c).usage < (s.cls c).warn ∨ (s.cls c).usage = 0) ∧
    ((s.cls c).congested = true → s.clearLevel c < (s.cls c).usage ∨ (s.cls c).warn ≤ (s.cls c).usage)

/-- The units a Lane Controller holds: its queue in order, then its current emission. -/
def Lane.units (l : Lane) : List UnitNo :=
  l.queue.flatMap Descriptor.units ++ (l.emission.map Descriptor.units).getD []

/-- The units held in slots: placed chains and early lists. -/
def State.slotUnits (s : State) : List UnitNo := s.slots.toList.flatMap Slot.units

/-- The units held in lane queues and current emissions. -/
def State.laneUnits (s : State) : List UnitNo := s.lanes.toList.flatMap Lane.units

/-- The number of units whose class record is `c` (04 R67). -/
def State.classCount (s : State) (c : ClassId) : Nat := s.store.unitClass.toList.countP (fun r => r == some c)

/-- Every store unit is in exactly one place (04 R66): the free list and the holdings of slots and lanes together are the
8192 units, each once. -/
def State.unitsAccounted (s : State) : Prop :=
  (s.store.freeList ++ s.slotUnits ++ s.laneUnits).Perm (List.finRange 8192)

/-- A unit has a class record exactly while it is not on the free list, and each usage is the number of units whose class
record is that class (04 R64, R67). -/
def State.usageLaw (s : State) : Prop :=
  (∀ u : UnitNo, s.store.unitClass[u.val] = none ↔ u ∈ s.store.freeList) ∧
    ∀ c : ClassId, (s.cls c).usage = s.classCount c

/-- While RESETN is asserted and through STARTING no place holds a unit and no class record stands (04 R79). -/
def State.storeEmpty (s : State) : Prop :=
  s.store.freeList = [] ∧ s.slotUnits = [] ∧ s.laneUnits = [] ∧ (∀ u : UnitNo, s.store.unitClass[u.val] = none) ∧
    ∀ c : ClassId, (s.cls c).usage = 0

/-- The unit law: the store empty in STARTING, every unit accounted for outside it (04 R66, R67, R79). -/
def State.unitLaw (s : State) : Prop :=
  if s.mode = .starting then s.storeEmpty else s.unitsAccounted ∧ s.usageLaw

/-! ## Modes -/

/-- RESETN asserted and the build of start-up belong to STARTING, the build runs only after RESETN's release (09 R140), and
in INIT, CLOSED and STARTING no slot is ASSEMBLING or SKIPPING (09 R145). -/
def State.modeLaw (s : State) : Prop :=
  (s.resetn = true ∨ s.building = true → s.mode = .starting) ∧ ¬ (s.resetn = true ∧ s.building = true) ∧
    (s.mode = .starting ∨ s.mode = .init ∨ s.mode = .closed → s.busySlots = 0)

/-! ## Slots and threads -/

/-- The ranges of a configuration's numeric fields (03 R49). -/
def ThreadConfig.inRange (c : ThreadConfig) : Prop :=
  1 ≤ c.limit ∧ c.limit ≤ 160 ∧ c.window ≤ 15 ∧ 1 ≤ c.timeout ∧ c.timeout ≤ 255

/-- Every active and every pending configuration is in range (03 R49, R53). -/
def State.configLaw (s : State) : Prop :=
  ∀ t : ThreadId, (s.thread t).active.inRange ∧ ∀ c, (s.thread t).pending = some c → c.inRange

/-- A thread's binding names a slot exactly when that slot is bound to the thread (01 R3). -/
def State.bindingLaw (s : State) : Prop :=
  ∀ (t : ThreadId) (k : SlotId), (s.thread t).binding = some k ↔ (s.slot k).thread = some t

/-- A bound thread is enabled (03 R52), and a RESTING slot's thread has retain set (01 R2). -/
def State.boundLaw (s : State) : Prop :=
  ∀ (k : SlotId) (t : ThreadId), (s.slot k).thread = some t →
    (s.thread t).active.enabled = true ∧ ((s.slot k).state = .resting → (s.thread t).active.retain = true)

/-- A thread has a pending configuration only while its slot is ASSEMBLING or SKIPPING (03 R60). -/
def State.pendingLaw (s : State) : Prop :=
  ∀ t : ThreadId, (s.thread t).pending.isSome = true →
    ∃ k : SlotId, (s.thread t).binding = some k ∧ (s.slot k).busy = true

/-- Every entry of an early list lies at a distance 1 to W from expected, in order of strictly increasing distance
(01 R18, R20). -/
def Assembly.earlyLaw (a : Assembly) (window : Nat) : Prop :=
  a.early.Pairwise (fun e f => distance e.seq a.expected < distance f.seq a.expected) ∧
    ∀ e ∈ a.early, 1 ≤ distance e.seq a.expected ∧ distance e.seq a.expected ≤ window

/-- Expected is parcel start plus the number of placed shards modulo 256 (01 R9), no more shards are placed than the limit
allows (02 R30), the slot holds a unit (01 R2), and the parcel tag is known exactly once a shard is placed (02 R27). -/
def Assembly.placedLaw (a : Assembly) (limit : Nat) : Prop :=
  a.expected = a.parcelStart + BitVec.ofNat 8 a.placed.length ∧ a.placed.length ≤ limit ∧ a.units ≠ [] ∧
    (a.parcelTag.isSome = true ↔ a.placed ≠ [])

/-- Last-held is the position of the lowest L shard held early, and absent where none is held (01 1.1, R18, 02 R31). -/
def Assembly.lastHeldLaw (a : Assembly) : Prop :=
  (∀ h, a.lastHeld = some h → ∃ e ∈ a.early, e.last = true ∧ position e.seq a.parcelStart = h) ∧
    ∀ e ∈ a.early, e.last = true → ∃ h, a.lastHeld = some h ∧ h ≤ position e.seq a.parcelStart

/-- An entry of the parcel in progress, at or below last-held or held while no L is held, lies below the limit
(01 R19, 02 R30). -/
def Assembly.earlyLimitLaw (a : Assembly) (limit : Nat) : Prop :=
  ∀ e ∈ a.early, (∀ h, a.lastHeld = some h → position e.seq a.parcelStart ≤ h) → position e.seq a.parcelStart < limit

/-- The laws of an ASSEMBLING slot, against its thread's active configuration (01 R2, R9, R18 to R20, 02 R27, R30, R31). -/
def State.slotLaw (s : State) : Prop :=
  ∀ (k : SlotId) (t : ThreadId) (stamp : PeriodNo) (a : Assembly), s.slot k = .assembling t stamp a →
    a.earlyLaw (s.thread t).active.window ∧ a.placedLaw (s.thread t).active.limit ∧ a.lastHeldLaw ∧
      a.earlyLimitLaw (s.thread t).active.limit

/-- The tables together: configurations in range, the binding law, the pending law and the laws of the slots. -/
def State.tableLaw (s : State) : Prop :=
  s.configLaw ∧ s.bindingLaw ∧ s.boundLaw ∧ s.pendingLaw ∧ s.slotLaw

/-! ## Lanes -/

/-- A lane queue holds at most 32 descriptors, and the credit stays within 0 to 4095 (06 R108). -/
def State.laneLaw (s : State) : Prop :=
  ∀ n : LaneId, (s.lane n).queue.length ≤ Config.laneQueuePlaces ∧ (s.lane n).credit ≤ Config.creditLimit

/-- What each lane state says of the queue, the current emission and the stall timer (the table of 06 6.1). -/
def Lane.shape (l : Lane) : Prop :=
  match l.state with
  | .stopped => l.emission = none ∧ l.stallTimer = none
  | .idle => l.queue = [] ∧ l.emission = none ∧ l.stallTimer = none
  | .waiting => (∃ d rest, l.queue = d :: rest ∧ l.credit < d.blocks) ∧ l.emission = none
  | .sending => l.emission.isSome = true ∧ l.stallTimer = none
  | .stopping => l.emission.isSome = true ∧ l.stallTimer = none

/-- Every lane has the shape of its state. -/
def State.laneShapes (s : State) : Prop := ∀ n : LaneId, (s.lane n).shape

/-! ## Management Engine and return link -/

/-- The management queue holds at most 8 requests and none in STARTING (08 R120, R121); the reservation is held and the
drain timer runs exactly while a DRAIN is in progress (08 R122, R133); at most 8 places of the reply queue are occupied
(10 R155); and no request that could be taken is left waiting (08 R122). -/
def State.engineLaw (s : State) : Prop :=
  s.engine.queue.length ≤ Config.managementPlaces ∧
    (s.mode = .starting → s.engine.queue = [] ∧ s.engine.inProgress = none) ∧
    s.engine.reserved = s.engine.inProgress.isSome ∧ s.engine.drainTimer.isSome = s.engine.inProgress.isSome ∧
    s.occupiedPlaces ≤ Config.replyPlaces ∧ s.canTake = false

/-- On an IDLE return link nothing waits (10 R151, R152), the full-restart hold stands only while a reply waits (10 R153),
and the notice queue, the lost-notice count and the orphan tally are in range (10 R156 to R158). -/
def State.returnLaw (s : State) : Prop :=
  (s.ret.onLink = none → s.ret.replies = [] ∧ s.ret.notices = [] ∧ s.ret.congestionPending = false) ∧
    (s.ret.fullRestartHold = true → s.ret.replies ≠ []) ∧ s.ret.notices.length ≤ Config.noticePlaces ∧
    s.ret.lostNotices ≤ Config.lostNoticeLimit ∧ s.orphanTally < Config.orphanBurst

/-! ## All of them -/

/-- The laws of a sound state between two steps. -/
def State.sound (s : State) : Prop :=
  s.memoryLaw ∧ s.quotaLaw ∧ s.congestionLaw ∧ s.unitLaw ∧ s.modeLaw ∧ s.tableLaw ∧ s.laneLaw ∧ s.laneShapes ∧
    s.engineLaw ∧ s.returnLaw

/-! ## What the claims speak of -/

/-- No judgement of R73 is owed, as between any two steps (log entry 6). -/
def State.settled (s : State) : Prop := ∀ c : ClassId, (s.cls c).fallOwed = false

/-- The engine can take an arriving request at once: start-up is over, the engine is READY with an empty queue, and fewer
than 8 places of the reply queue are occupied (08 R121, R122). -/
def State.ready (s : State) : Prop :=
  s.mode ≠ .starting ∧ s.engine.queue = [] ∧ s.engine.inProgress = none ∧ s.engine.reserved = false ∧
    s.ret.replies.length < Config.replyPlaces

/-- The RESETN values of every block (01 R1, 03 R50, 04 R79, 05 R82, 06 R92, 08 R120, 09 R140, 10 R151, R158, R161), and
every writable setting at its default (11 11.6). That no lane keeps a record of a last frame is the model's own value
(log entry 11). -/
def State.atReset (s : State) : Prop :=
  s.mode = .starting ∧ s.resetn = true ∧ s.building = false ∧ s.controller = 0 ∧ (∀ k, s.slot k = .free) ∧
    (∀ t, s.thread t = ⟨⟨false, 0, 0, 160, 0, 10, false, true⟩, none, none⟩) ∧
    (s.store.freeList = [] ∧ (∀ u : UnitNo, s.store.unitClass[u.val] = none) ∧ s.store.hysteresis = 256 ∧
      ∀ c, s.cls c = { usage := 0, quota := 2048, warn := 1536, congested := false, fallOwed := false }) ∧
    s.aging = { timer := none, periodNo := 0, cursor := none, expiryPending := false, period := 1000 } ∧
    (∀ n, s.lane n = { state := .stopped, queue := [], emission := none, credit := 0, stallTimer := none,
                       stallLimit := 100, lastFrame := .none }) ∧
    s.engine = { queue := [], inProgress := none, reserved := false, drainTimer := none, drainLimit := 500 } ∧
    s.ret = { replies := [], notices := [], congestionPending := false, lostNotices := 0, sequence := 0, onLink := none,
              fullRestartHold := false, noticeMask := 0x7FFF } ∧
    (∀ c, s.drops c = 0) ∧ (∀ c, s.parcels c = 0) ∧ (∀ n c, s.laneCounter n c = 0) ∧ (∀ c, s.device c = 0) ∧
    s.orphanTally = 0

/-- A shard whose header passes 07 R111: the check of octets 0 to 5 is the one in octets 6 and 7, and the two must-be-zero
bits are 0. -/
def headerSound (v : Vector Byte 64) : Prop :=
  headerCheck (v.toList.take 6) = v[6] ++ v[7] ∧ v[1].getLsbD 0 = false ∧ v[1].getLsbD 1 = false

/-- The two kind bits of a shard (11 11.1). -/
def kindBits (v : Vector Byte 64) : BitVec 2 := v[0].extractLsb' 6 2

/-- The source of a shard, as a number (11 11.1). -/
def sourceNumber (v : Vector Byte 64) : Nat := v[0].toNat % 64

/-- A data shard's fields where 11 11.1 places them: source in bits 5 to 0 of octet 0, stream in bits 7 to 4 of octet 1, F
and L in its bits 3 and 2, sequence, fill, parcel tag and payload. -/
def shardFields (v : Vector Byte 64) : DataShard :=
  { thread := Fin.ofNat 1024 (sourceNumber v * 16 + v[1].toNat / 16)
    first := v[1].getLsbD 3
    last := v[1].getLsbD 2
    seq := v[2]
    fill := v[3]
    tag := v[4] ++ v[5]
    payload := v.toList.drop 8 }

/-- The management payload octets of each request row, up to the last operand its code lists (11 R164); none for the
events. -/
def requestOctets : Instr → Option (List Byte)
  | .resetnAssert => none
  | .resetnRelease => none
  | .endOfStartUp => none
  | .shardArrival _ => none
  | .closeJudgement => none
  | .grant _ _ => none
  | .emissionEnd _ => none
  | .stallExpiry _ => none
  | .periodExpiry => none
  | .scanVisit => none
  | .drainTimerExpiry => none
  | .returnShardEnd => none
  | .readSetting n i => some (fieldOctets n ++ [0x01, i])
  | .writeSetting n i v => some (fieldOctets n ++ [0x02, i] ++ fieldOctets v)
  | .writeController n v => some (fieldOctets n ++ [0x02, 2] ++ fieldOctets v)
  | .writePeriod n v => some (fieldOctets n ++ [0x02, 3] ++ fieldOctets v)
  | .writeQuota n c v => some (fieldOctets n ++ [0x02, 5 + BitVec.ofNat 8 c.val] ++ fieldOctets v)
  | .writeWarn n c v => some (fieldOctets n ++ [0x02, 9 + BitVec.ofNat 8 c.val] ++ fieldOctets v)
  | .writeHysteresis n v => some (fieldOctets n ++ [0x02, 13] ++ fieldOctets v)
  | .writeStall n l v => some (fieldOctets n ++ [0x02, 15 + BitVec.ofNat 8 l.val] ++ fieldOctets v)
  | .readThread n t => some (fieldOctets n ++ [0x03] ++ fieldOctets t)
  | .writeThread n t e c l m w o r y => some (fieldOctets n ++ [0x04] ++ fieldOctets t ++ [e, c, l, m, w, o, r, y])
  | .readSlot n k => some (fieldOctets n ++ [0x05, k])
  | .cutSkip n g i => some (fieldOctets n ++ [0x06, g] ++ fieldOctets i ++ [0x00])
  | .cutRelease n g i => some (fieldOctets n ++ [0x06, g] ++ fieldOctets i ++ [0x01])
  | .laneStart n l => some (fieldOctets n ++ [0x07, l, 0x00])
  | .laneStop n l => some (fieldOctets n ++ [0x07, l, 0x01])
  | .laneFlush n l => some (fieldOctets n ++ [0x07, l, 0x02])
  | .openDevice n => some (fieldOctets n ++ [0x08])
  | .drain n => some (fieldOctets n ++ [0x09])
  | .readCounters n g l c => some (fieldOctets n ++ [0x0A, g, l, c])
  | .restartTraffic n => some (fieldOctets n ++ [0x0B, 0x00])
  | .restartFull n => some (fieldOctets n ++ [0x0B, 0x01])
  | .unknownRequest n c => some (fieldOctets n ++ [c])

/-- The 56 payload octets of a management shard that carries the request of a request row, filled up with 0x00
(log entry 19). -/
def requestPayload (i : Instr) : Option (List Byte) :=
  (requestOctets i).map fun os => os ++ List.replicate (56 - os.length) 0

/-! ## Held entries and completions -/

/-- A run of held entries that are placed one after another from the sequence `x` on: consecutive sequences at positions
other than 0, of the parcel's tag, without F and without L (01 R17, 02 R29). -/
def isRun (start : Seq) (tag : Tag) : Seq → List EarlyEntry → Prop
  | _, [] => True
  | x, e :: rest =>
    e.seq = x ∧ x ≠ start ∧ e.first = false ∧ e.last = false ∧ e.tag = tag ∧ isRun start tag (x + 1) rest

/-- The entries with which a next parcel begins at once: none, or an F entry without L at its start and the run behind it
(02 R40 step 5). -/
def startsAt (start : Seq) : List EarlyEntry → Prop
  | [] => True
  | e :: run => e.seq = start ∧ e.first = true ∧ e.last = false ∧ isRun start e.tag (start + 1) run

/-- The head of the entries held, if any, is not the one due at `x`. -/
def notDue (x : Seq) (held : List EarlyEntry) : Prop := ∀ e ∈ held.head?, e.seq ≠ x

/-- The running check taken on over the payloads of held entries without L, all 56 octets of each (02 R33). -/
def State.checkOver (s : State) (check : BitVec 32) (placed : List EarlyEntry) : BitVec 32 :=
  placed.foldl (fun c e => parcelCheckUpdate c (s.unitOctets e.unit)) check

/-- The units of held entries, in list order. -/
def unitsOf (held : List EarlyEntry) : List UnitNo := held.map EarlyEntry.unit

/-- An entry's position from a parcel start is below the limit (02 R30). -/
def EarlyEntry.inLimit (limit : Nat) (start : Seq) (e : EarlyEntry) : Prop :=
  position e.seq start < limit

/-- Kept entries that all pass the judgement of R40, and the last-held it gives: none where no L is held, otherwise the
position of the first L, with every entry up to it below the limit and its fill in range (02 R40 step 3). -/
def passesAsNextParcel (limit : Nat) (start : Seq) (held : List EarlyEntry) (lastHeld : Option Nat) : Prop :=
  ((∀ e ∈ held, e.last = false ∧ e.inLimit limit start) ∧ lastHeld = none) ∨
    ∃ before e after, held = before ++ e :: after ∧ (∀ f ∈ before, f.last = false ∧ f.inLimit limit start) ∧
      e.last = true ∧ e.inLimit limit start ∧ 5 ≤ e.fill.toNat ∧ e.fill.toNat ≤ 56 ∧
      (∀ f ∈ after, position e.seq start < position f.seq start) ∧ lastHeld = some (position e.seq start)

/-- Kept entries of which `e` is the first that fails the judgement of R40, and the poison reason it gives: at or past the
limit, or an L with its fill out of range (02 R40 steps 3 and 4). -/
def failsAsNextParcel (limit : Nat) (start : Seq) (held : List EarlyEntry) (e : EarlyEntry) (reason : PoisonReason) :
    Prop :=
  ∃ before after, held = before ++ e :: after ∧ (∀ f ∈ before, f.last = false ∧ f.inLimit limit start) ∧
    (¬ e.inLimit limit start ∧ reason = .overlong ∨
      e.inLimit limit start ∧ e.last = true ∧ (e.fill.toNat < 5 ∨ 56 < e.fill.toNat) ∧ reason = .framing)

/-- What is to be known of the placement of an L: the slot and the bound thread, the configuration in force and the one
pending, the parcel's tag, its units with the L's own, the running check before the L, the L's payload and fill, the
sequence after the L, the free list before anything is returned, and the early entries still held. -/
structure Completion where
  slot : SlotId
  thread : ThreadId
  config : ThreadConfig
  pending : Option ThreadConfig
  tag : Tag
  units : List UnitNo
  check : BitVec 32
  payload : List Byte
  fill : Byte
  expected : Seq
  free : List UnitNo
  held : List EarlyEntry

/-- The trailer of a completion matches, or the thread does not verify (02 R34, 11 R166). -/
def Completion.passes (c : Completion) : Prop :=
  let trailer := c.payload.drop (c.fill.toNat - 4)
  c.config.verify = false ∨ ~~~(parcelCheckUpdate c.check (c.payload.take (c.fill.toNat - 4))) =
    trailer.getD 3 0 ++ trailer.getD 2 0 ++ trailer.getD 1 0 ++ trailer.getD 0 0

/-- The descriptor of a completion in a period (02 R36). -/
def Completion.descriptor (c : Completion) (period : PeriodNo) : Descriptor :=
  { thread := c.thread, tag := c.tag, cls := c.config.cls, lane := c.config.lane,
    length := 56 * (c.units.length - 1) + c.fill.toNat - 4, units := c.units, completionPeriod := period }

/-- The lane `m` is the lane `l` after the append of a descriptor, by the state of `l`: queued at the tail, and in IDLE
started or waiting by the credit (06 R93 to R95, R99). -/
def Lane.appended (l m : Lane) (d : Descriptor) : Prop :=
  (l.state ≠ .idle → m = { l with queue := l.queue ++ [d] }) ∧
    (l.state = .idle → l.queue = [] →
      ((d.length + 63) / 64 ≤ l.credit → m = { l with
        credit := l.credit - (d.length + 63) / 64, queue := [], emission := some d, stallTimer := none,
        state := .sending }) ∧
      (l.credit < (d.length + 63) / 64 → m = { l with
        queue := [d], state := .waiting, stallTimer := if l.stallLimit = 0 then none else some l.stallLimit }))

/-- Steps 2 and 3 of a completion, from `s` to `t`: the parcel sealed into its lane, or discarded for CHECK or LANE_FULL
with its units returned; `free` is the free list they leave (02 R35 to R38). -/
def Completion.judged (c : Completion) (s t : State) (free : List UnitNo) : Prop :=
  let l := s.lane c.config.lane
  (c.passes → l.queue.length < 32 → free = c.free ∧ t.parcels .sealed = s.parcels .sealed + 1 ∧
    l.appended (t.lane c.config.lane) (c.descriptor s.aging.periodNo) ∧
    ∀ m, m ≠ c.config.lane → t.lane m = s.lane m) ∧
  (c.passes → 32 ≤ l.queue.length → free = c.free ++ c.units ∧ t.parcels .sealed = s.parcels .sealed ∧
    t.parcels .laneFull = s.parcels .laneFull + 1 ∧ t.lanes = s.lanes) ∧
  (¬ c.passes → free = c.free ++ c.units ∧ t.parcels .sealed = s.parcels .sealed ∧
    t.parcels .check = s.parcels .check + 1 ∧ t.lanes = s.lanes)

/-- The slot and its thread after a parcel end that leaves no parcel in progress: RESTING for an enabled retain
configuration, otherwise FREE and unbound, and reported either way (02 R39 steps 3 and 4, 01 R25). -/
def Completion.ends (c : Completion) (cfg : ThreadConfig) (s t : State) : Prop :=
  (cfg.retain = true → cfg.enabled = true →
    t.slot c.slot = .resting c.thread s.aging.periodNo c.expected ∧ (t.thread c.thread).binding = some c.slot) ∧
  (cfg.retain = false ∨ cfg.enabled = false → t.slot c.slot = .free ∧ (t.thread c.thread).binding = none) ∧
  t.slotReports = s.slotReports + 1

/-- The retain thread's next parcel after a completion, from `s` to `t`, by the entries kept: poisoned by the first that
fails the judgement of R40, or by one due at its start without F; otherwise begun with the entries due at once placed and
the rest held early. No report is made (02 R40, R27, 01 R17). -/
def Completion.continues (c : Completion) (s t : State) : Prop :=
  let limit := c.config.limit
  let poisoned := fun (e : EarlyEntry) (r : PoisonReason) (units : List UnitNo) =>
    (∃ free, c.judged s t free ∧ t.store.freeList = free ++ units) ∧
      t.slot c.slot = .skipping c.thread s.aging.periodNo (some e.tag) r ∧ t.parcels r.counter = s.parcels r.counter + 1 ∧
      t.slotReports = s.slotReports
  (∀ e r, failsAsNextParcel limit c.expected c.held e r → poisoned e r (unitsOf c.held)) ∧
  ∀ lastHeld, passesAsNextParcel limit c.expected c.held lastHeld →
    (∀ e more, c.held = e :: more → e.seq = c.expected → e.first = false →
      poisoned e .framing (unitsOf more ++ [e.unit])) ∧
    ∀ started later, c.held = started ++ later → startsAt c.expected started →
      notDue (c.expected + BitVec.ofNat 8 started.length) later →
      c.judged s t t.store.freeList ∧ t.slotReports = s.slotReports ∧
        t.slot c.slot = .assembling c.thread s.aging.periodNo
          { expected := c.expected + BitVec.ofNat 8 started.length, parcelStart := c.expected,
            parcelTag := started.head?.map EarlyEntry.tag, placed := unitsOf started,
            check := s.checkOver 0xFFFFFFFF#32 started, early := later, lastHeld := lastHeld }

/-- A completion taken, from `s` to `t`, by what becomes of the entries held: displaced by a pending configuration; none
held; dropped as ORPHAN where the configuration clears retain or enabled; dropped as NOT_RUNNING in CLOSING; or kept for the
next parcel (02 R35, R39 to R41, 03 R56, R57). -/
def Completion.taken (c : Completion) (s t : State) : Prop :=
  let retains := c.config.retain = true ∧ c.config.enabled = true
  let returned := fun units : List UnitNo => ∃ free, c.judged s t free ∧ t.store.freeList = free ++ units
  let count := BitVec.ofNat 32 c.held.length
  (∀ next, c.pending = some next → returned (unitsOf c.held) ∧ t.drops .displaced = s.drops .displaced + count ∧
    (t.thread c.thread).active = next ∧ (t.thread c.thread).pending = none ∧ c.ends next s t) ∧
  (c.pending = none → c.held = [] → returned [] ∧ c.ends c.config s t) ∧
  (c.pending = none → ¬ retains →
    returned (unitsOf c.held) ∧ t.drops .orphan = s.drops .orphan + count ∧ c.ends c.config s t) ∧
  (c.pending = none → retains → c.held ≠ [] → s.mode = .closing →
    returned (unitsOf c.held) ∧ t.drops .notRunning = s.drops .notRunning + count ∧ c.ends c.config s t) ∧
  (c.pending = none → retains → c.held ≠ [] → s.mode ≠ .closing → c.continues s t) ∧
  ∀ j, j ≠ c.slot → t.slot j = s.slot j

/-! ## The layout of return shards (11 R165) -/

/-- A two-octet field, most significant octet first. -/
def twoOctets (v : BitVec 16) : List Byte := [v.extractLsb' 8 8, v.extractLsb' 0 8]

/-- A number in a two-octet field. -/
def numberOctets (n : Nat) : List Byte := twoOctets (BitVec.ofNat 16 n)

/-- The octets of a configuration in the order of the WRITE_THREAD operands from enabled to verify. -/
def configOctets (c : ThreadConfig) : List Byte :=
  [if c.enabled = true then 1 else 0, BitVec.ofNat 8 c.cls.val, BitVec.ofNat 8 c.lane.val, BitVec.ofNat 8 c.limit,
    BitVec.ofNat 8 c.window, BitVec.ofNat 8 c.timeout, if c.retain = true then 1 else 0, if c.verify = true then 1 else 0]

/-- The result octets of a reply, from octet 6 on, by the table of 11 R165. What the octets of a READ_SLOT reply past its
early-list sequences hold is left open: the table gives them no value, and 0x00 is the model's choice (log entry 21). -/
def ReplyResult.laidOut (r : ReplyResult) (result : List Byte) : Prop :=
  let octet := fun n : Nat => BitVec.ofNat 8 n
  let flag := fun b : Bool => if b = true then (1 : Byte) else 0
  match r with
  | .empty => result = []
  | .value v => result = twoOctets v
  | .ident family revision => result = twoOctets family ++ [revision]
  | .deviceStatus m periodNo scanning working queued =>
    result = octet m.code :: twoOctets periodNo ++ [flag scanning, flag working, octet queued]
  | .occupancy free usages f a k r =>
    result = numberOctets free ++ usages.flatMap numberOctets ++ [octet f, octet a, octet k, octet r]
  | .thread active pending binding slotState =>
    result = configOctets active ++
      (match pending with
        | none => List.replicate 9 0
        | some c => 1 :: configOctets c) ++
      [match binding with
        | none => 0xFF
        | some k => octet k.val, octet slotState.code]
  | .slot v => v.early.length ≤ 15 → ∃ (presence : Byte) (open_ : List Byte), open_.length = 15 - v.early.length ∧
      presence.getLsbD 0 = v.thread.isSome ∧ presence.getLsbD 1 = v.expected.isSome ∧
      presence.getLsbD 2 = v.parcelStart.isSome ∧ presence.getLsbD 3 = v.parcelTag.isSome ∧
      presence.getLsbD 4 = v.lastHeld.isSome ∧ presence.getLsbD 5 = v.stamp.isSome ∧
      presence.getLsbD 6 = v.skipTag.isSome ∧ presence.getLsbD 7 = v.reason.isSome ∧
      result = [octet v.state.code, presence] ++ numberOctets ((v.thread.map Fin.val).getD 0) ++
        [v.expected.getD 0, v.parcelStart.getD 0] ++ twoOctets (v.parcelTag.getD 0) ++
        [octet v.placedUnits, octet v.early.length] ++ v.early ++ open_ ++ [octet (v.lastHeld.getD 0)] ++
        twoOctets (v.stamp.getD 0) ++ twoOctets (v.skipTag.getD 0) ++
        [octet ((v.reason.map (fun r => r.notice.code)).getD 0)]
  | .cut parcelsCut slotsReleased => result = [octet parcelsCut, octet slotsReleased]
  | .lane state queued credit flushed =>
    result = [octet state.code, octet queued] ++ numberOctets credit ++ [octet flushed]
  | .mode m => result = [octet m.code]
  | .drain m busySlots descriptors => result = [octet m.code, octet busySlots] ++ numberOctets descriptors
  | .counters values =>
    result = values.flatMap (fun v =>
      [v.extractLsb' 24 8, v.extractLsb' 16 8, v.extractLsb' 8 8, v.extractLsb' 0 8])

end Sys2Proof.Machine
end

