-- ==== Sys2Proof/Certificates/Slice0/Obligations.lean ====
section
/-! DEFINITION. The statements about the WB3208 for the provers: the laws every step keeps, then what each command does, block by block. Each docstring names the rule it formalises; a clause that rests on the model's own choice names its log entry. -/

section WeftbayStatements

open Sys2Proof Sys2Proof.Machine

/-! ## The block as a machine -/

/-- A step takes the command at the front of the queue and carries it out on the state with the queue's rest; on an empty
queue the block idles (log entry 2, the model's choice). -/
def Obligations.StepTakesTheFrontCommand : Prop :=
  (∀ (c : Instr) (rest : List Instr) (s : State), s.pending = c :: rest →
    step s = exec c { s with pending := rest }) ∧
  ∀ s : State, s.pending = [] → step s = .next s

/-- No command ends in a fault or a refusal, and none touches the queue of waiting commands. -/
def Obligations.EveryCommandAnswersANextState : Prop :=
  ∀ (i : Instr) (s : State), ∃ t, exec i s = .next t ∧ t.pending = s.pending

/-- The machine begins with RESETN asserted and every value of its RESETN state (that RESETN is asserted at the start is
the model's reading, log entry 1), no octet listed (that a unit never written reads as 0x00 is the model's choice, log
entry 8) and no command waiting. That no lane has a record of a last frame is the model's own value (log entry 11). -/
def Obligations.ResetHoldsTheResetnValues : Prop :=
  State.reset.atReset ∧ State.reset.store.octets = [] ∧ State.reset.pending = []

/-- The state after reset meets every law that the steps keep. -/
def Obligations.ResetMeetsEveryLaw : Prop := State.reset.sound

/-! ## Laws every step keeps -/

/-- Every step keeps the octets of the store units in canonical form. -/
def Obligations.StepKeepsMemoryCanonical : Prop :=
  ∀ s t : State, step s = .next t → s.memoryLaw → t.memoryLaw

/-- Every step keeps each lane queue within 32 descriptors and each credit within 0 to 4095, and keeps each lane in the
shape the table of 06 6.1 gives its state (06 R108). -/
def Obligations.StepKeepsLaneLaws : Prop :=
  ∀ s t : State, step s = .next t → s.laneLaw → s.laneShapes → t.laneLaw ∧ t.laneShapes

/-- Every step keeps each warn level at or below its quota (04 R69). -/
def Obligations.StepKeepsWarnWithinQuota : Prop :=
  ∀ s t : State, step s = .next t → s.quotaLaw → t.quotaLaw

/-- Every step leaves each class's congestion state as the judgements of 04 R72, R73 and R78 leave it, with no judgement
owed. -/
def Obligations.StepKeepsCongestionJudged : Prop :=
  ∀ s t : State, step s = .next t → s.congestionLaw → t.congestionLaw

/-- In INIT, CLOSED and STARTING no slot is ASSEMBLING or SKIPPING, and every step keeps it so (09 R145). RESETN asserted
and the start-up build belong to STARTING and exclude each other (09 R140), which the law carries with it. -/
def Obligations.StepKeepsModeLaw : Prop :=
  State.reset.modeLaw ∧ ∀ s t : State, step s = .next t → s.modeLaw → t.modeLaw

/-- Every step keeps the laws of the tables: bindings and slots agree (01 R3), bound threads are enabled and RESTING ones
retain (03 R52, 01 R2), pending configurations belong to parcels in progress (03 R60), early lists are in order within the
window (01 R20), expected follows the placed chain (01 R9), last-held names the lowest L held early (01 R18, 02 R31), and the
placed shards and the entries of the parcel in progress lie below the limit (02 R30). -/
def Obligations.StepKeepsTableLaw : Prop :=
  ∀ s t : State, step s = .next t → s.tableLaw → t.tableLaw

/-- Every store unit is in exactly one place outside STARTING, with its class record and the usages in step with it, and
every step keeps it so, the modes and the lanes being in order (04 R66, R67, 06 6.1). That the free list is empty through
STARTING, the build included, is the model's reading (log entry 13). -/
def Obligations.StepKeepsEveryUnitInOnePlace : Prop :=
  ∀ s t : State, step s = .next t → s.modeLaw → s.laneShapes → s.unitLaw → t.unitLaw

/-- Every step keeps the laws of the Management Engine and of the return link: queues within their places, the reservation
and the drain timer with the DRAIN in progress, no request left that could be taken, nothing waiting on an IDLE link
(08 R121, R122, 10 R152, R155 to R158). -/
def Obligations.StepKeepsEngineAndLinkLaws : Prop :=
  ∀ s t : State, step s = .next t → s.modeLaw → s.engineLaw → s.returnLaw → t.engineLaw ∧ t.returnLaw

/-- Only a shard's arrival writes the octets of store units: every other command leaves every octet as it was, resets and
restarts included (04 R64). -/
def Obligations.OnlyShardArrivalsWriteUnitOctets : Prop :=
  ∀ (i : Instr) (s t : State), (∀ v, i ≠ .shardArrival v) → exec i s = .next t → t.store.octets = s.store.octets

/-! ## RESETN, start-up and modes -/

/-- RESETN_ASSERT gives every block its RESETN values at once, and leaves the octets of every unit as they were
(09 R140, R149, 04 R64). That the record of each lane's last frame is cleared is the model's own value (log entry 11). -/
def Obligations.ResetnAssertTakesResetnValues : Prop :=
  ∀ s : State, ∃ t, exec .resetnAssert s = .next t ∧ t.atReset ∧ t.store.octets = s.store.octets ∧
    t.pending = s.pending

/-- RESETN_RELEASE begins start-up, and END_OF_START_UP ends it: all 8192 units free in numeric order, the mode INIT, the
first period begun at the PERIOD setting, and the STARTED notice on the return link with the return sequence of the moment
(09 R140, R141, 04 R79). Each is taken only where it can happen (log entry 4, the model's choice). -/
def Obligations.StartUpEndsInInit : Prop :=
  (∀ s : State, exec .resetnRelease s =
    .next (if s.resetn = true then { s with resetn := false, building := true } else s)) ∧
  (∀ s : State, s.building = false → exec .endOfStartUp s = .next s) ∧
  ∀ s : State, s.building = true → s.ret.onLink = none → s.ret.replies = [] → s.ret.notices = [] →
    s.ret.congestionPending = false → s.ret.noticeMask.getLsbD 0 = true →
    exec .endOfStartUp s = .next { s with
      building := false
      mode := .init
      store := { s.store with freeList := List.finRange 8192 }
      aging := { s.aging with timer := some s.aging.period }
      ret := { s.ret with
        lostNotices := 0
        sequence := s.ret.sequence + 1
        onLink := some ⟨s.ret.sequence, .notice ⟨.started, none, none, none, none, s.aging.periodNo, s.ret.lostNotices⟩⟩ } }

/-- While RESETN is asserted and through STARTING nothing is taken from the links: shards, grants and requests leave the
part as it was (07 R110, 06 R92, 08 R120). -/
def Obligations.StartingTakesNothingFromTheLinks : Prop :=
  ∀ s : State, s.mode = .starting →
    (∀ v, exec (.shardArrival v) s = .next s) ∧ (∀ n w, exec (.grant n w) s = .next s) ∧
    ∀ i, (requestOctets i).isSome = true → exec i s = .next s

/-- STARTING is entered only by RESETN_ASSERT and left only by END_OF_START_UP, to INIT. CLOSED is entered only with no slot
ASSEMBLING or SKIPPING. Where no other request waits, CLOSED is entered only by a close judgement or a DRAIN, and left only
by OPEN to RUN, by a RESTART to INIT or by RESETN_ASSERT to STARTING, each request as its row or as the management shard
that carries it. Grants, expiries of the period and visits change no mode (09 R139 to R143). -/
def Obligations.ModeChangesOnlyByItsEvents : Prop :=
  ∀ (i : Instr) (s t : State), exec i s = .next t →
    let code := match i with
      | .shardArrival v => if kindBits v = 0b10#2 then some v[10] else none
      | _ => (requestOctets i).map (fun octets => octets.getD 2 0)
    (t.mode = .starting → s.mode ≠ .starting → i = .resetnAssert) ∧
    (s.mode = .starting → t.mode ≠ .starting → i = .endOfStartUp ∧ t.mode = .init) ∧
    (t.mode = .closed → s.mode ≠ .closed → t.busySlots = 0) ∧
    (s.modeLaw → s.engine.queue = [] → t.mode = .closed → s.mode ≠ .closed →
      i = .closeJudgement ∨ code = some 0x09) ∧
    (s.modeLaw → s.engine.queue = [] → s.mode = .closed → t.mode ≠ .closed →
      i = .resetnAssert ∧ t.mode = .starting ∨ code = some 0x08 ∧ t.mode = .run ∨
        code = some 0x0B ∧ t.mode = .init) ∧
    ((∃ n w, i = .grant n w) ∨ i = .periodExpiry ∨ i = .scanVisit → t.mode = s.mode)

/-! ## The Ingress Gate -/

/-- A shard whose header check differs, or with a nonzero must-be-zero bit, is dropped and counted as HEADER, and nothing
else changes (07 R111). -/
def Obligations.HeaderFaultIsDroppedAsHeader : Prop :=
  ∀ (s : State) (v : Vector Byte 64), s.mode ≠ .starting → ¬ headerSound v →
    exec (.shardArrival v) s = .next (s.bumpDrop .header)

/-- With a sound header, a kind other than DATA and MANAGEMENT is dropped as KIND, and a management shard from a source
other than CONTROLLER as FOREIGN; nothing else changes (07 R112, R113, 11 R163). -/
def Obligations.KindAndForeignDrops : Prop :=
  ∀ (s : State) (v : Vector Byte 64), s.mode ≠ .starting → headerSound v →
    (kindBits v = 0b00#2 ∨ kindBits v = 0b11#2 → exec (.shardArrival v) s = .next (s.bumpDrop .kind)) ∧
    (kindBits v = 0b10#2 → sourceNumber v ≠ s.controller.val →
      exec (.shardArrival v) s = .next (s.bumpDrop .foreign))

/-- A request row of the table is the arrival of its management shard: a sound management shard from CONTROLLER whose
payload holds the row's request does exactly what the row does (07 R113, 11 R164). That a row stands for this shard, with
0x00 past its operands, is the model's reading (log entries 3 and 19). -/
def Obligations.RequestRowIsItsManagementShard : Prop :=
  ∀ (i : Instr) (s : State) (v : Vector Byte 64), headerSound v → kindBits v = 0b10#2 →
    sourceNumber v = s.controller.val → requestPayload i = some (v.toList.drop 8) →
    exec (.shardArrival v) s = exec i s

/-- A data shard with a sound header, by the device mode: dropped as NOT_RUNNING in INIT and CLOSED; in RUN dropped as
DISABLED where its thread is not enabled, and otherwise taken by the Slot Table, whose step ends with the judgements of
R73 (07 R115, R117; the place of the judgements in the step is log entry 6). -/
def Obligations.ModeGateOfDataShards : Prop :=
  ∀ (s : State) (v : Vector Byte 64), headerSound v → kindBits v = 0b01#2 →
    (s.mode = .init ∨ s.mode = .closed → exec (.shardArrival v) s = .next (s.bumpDrop .notRunning)) ∧
    (s.mode = .run → (s.thread (shardFields v).thread).active.enabled = false →
      exec (.shardArrival v) s = .next (s.bumpDrop .disabled)) ∧
    (s.mode = .run → (s.thread (shardFields v).thread).active.enabled = true →
      exec (.shardArrival v) s = .next (s.takeShard (shardFields v)).settleReturns)

/-- In CLOSING a data shard is judged by its thread's binding and slot: the rows of 07 R116. A shard passed is dropped as
DISABLED where its thread is not enabled, and otherwise taken by the Slot Table, whose step ends with the judgements of R73
(07 R117, 04 R73; the place of the judgements in the step is log entry 6). -/
def Obligations.ClosingGateOfDataShards : Prop :=
  ∀ (s : State) (v : Vector Byte 64), headerSound v → kindBits v = 0b01#2 → s.mode = .closing →
    let sh := shardFields v
    let dropped := exec (.shardArrival v) s = .next (s.bumpDrop .notRunning)
    let passed := exec (.shardArrival v) s = .next (
      if (s.thread sh.thread).active.enabled = true then (s.takeShard sh).settleReturns else s.bumpDrop .disabled)
    ((s.thread sh.thread).binding = none → sh.first = true → dropped) ∧
    ((s.thread sh.thread).binding = none → sh.first = false → passed) ∧
    ∀ k, (s.thread sh.thread).binding = some k →
      (∀ t p e, s.slot k = .resting t p e → dropped) ∧
      (∀ t p g r, s.slot k = .skipping t p (some g) r → g ≠ sh.tag → sh.first = true → dropped) ∧
      (∀ t p g r, s.slot k = .skipping t p (some g) r → g = sh.tag ∨ sh.first = false → passed) ∧
      (∀ t p r, s.slot k = .skipping t p none r → sh.first = true → dropped) ∧
      (∀ t p r, s.slot k = .skipping t p none r → sh.first = false → passed) ∧
      ∀ t p a, s.slot k = .assembling t p a → passed

/-! ## The Slot Table: unbound threads -/

/-- A shard without F of an unbound thread is dropped as ORPHAN: the counter and the orphan tally advance, nothing else
changes, and the drop that brings the tally to 16 resets it and raises ORPHAN_BURST with count 16 (01 R4, 10 R158). -/
def Obligations.UnboundShardWithoutFIsOrphan : Prop :=
  ∀ (s : State) (sh : DataShard), (s.thread sh.thread).binding = none → sh.first = false →
    (s.orphanTally < 15 →
      s.takeShard sh = { s.bumpDrop .orphan with orphanTally := s.orphanTally + 1 }) ∧
    (s.orphanTally = 15 → s.takeShard sh =
      { s.bumpDrop .orphan with orphanTally := 0 }.raise .orphanBurst (some sh.thread) none none (some 16))

/-- A shard carrying F of an unbound thread binds the lowest-numbered FREE slot and claims a unit for its class. On
success the shard, where it carries no L, is placed at position 0, and every other slot, thread and lane and every octet
outside the unit claimed is unchanged; at the quota or with an empty free list the new parcel is poisoned and the slot is
SKIPPING with the shard's tag (01 R5, R7, 02 R27, 04 R64, R68). -/
def Obligations.FirstShardBindsTheLowestFreeSlot : Prop :=
  ∀ (s : State) (sh : DataShard) (k : SlotId), (s.thread sh.thread).binding = none → sh.first = true →
    s.slot k = .free → (∀ j, j < k → s.slot j ≠ .free) →
    let c := (s.thread sh.thread).active.cls
    let t := s.takeShard sh
    (∀ u rest, sh.last = false → s.memoryLaw → sh.payload.length = 56 → (s.cls c).usage < (s.cls c).quota →
      s.store.freeList = u :: rest →
      t.slot k = .assembling sh.thread s.aging.periodNo
        { expected := sh.seq + 1, parcelStart := sh.seq, parcelTag := some sh.tag, placed := [u],
          check := parcelCheckUpdate 0xFFFFFFFF#32 sh.payload, early := [], lastHeld := none } ∧
      (t.thread sh.thread).binding = some k ∧ (t.cls c).usage = (s.cls c).usage + 1 ∧ t.store.freeList = rest ∧
      t.store.unitClass[u.val] = some c ∧ t.unitOctets u = sh.payload ∧
      (∀ j, j ≠ k → t.slot j = s.slot j) ∧ (∀ x, x ≠ sh.thread → t.thread x = s.thread x) ∧
      t.lanes = s.lanes ∧ t.engine = s.engine ∧ t.aging = s.aging ∧ t.mode = s.mode ∧
      ∀ a, a < unitAddress u ∨ unitAddress u + 56 ≤ a →
        Memory.read t.store.octets a = Memory.read s.store.octets a) ∧
    ((s.cls c).quota ≤ (s.cls c).usage →
      t.slot k = .skipping sh.thread s.aging.periodNo (some sh.tag) .quota ∧
      (t.thread sh.thread).binding = some k ∧ t.store = s.store ∧ t.parcels .quota = s.parcels .quota + 1) ∧
    ((s.cls c).usage < (s.cls c).quota → s.store.freeList = [] →
      t.slot k = .skipping sh.thread s.aging.periodNo (some sh.tag) .store ∧
      (t.thread sh.thread).binding = some k ∧ t.store = s.store ∧ t.parcels .store = s.parcels .store + 1)

/-- With no slot FREE, a shard carrying F of an unbound thread evicts the RESTING slot of greatest age, the lowest-numbered
of equals, and is bound to it; the evicted thread keeps its active configuration and loses its binding. With none RESTING
either, the shard is dropped as NO_SLOT with a notice, and nothing else changes (01 R6). -/
def Obligations.OldestRestingSlotIsEvictedOrTheShardRefused : Prop :=
  (∀ (s : State) (sh : DataShard) (k : SlotId) (t₀ : ThreadId) (p₀ : PeriodNo) (e₀ : Seq),
    (s.thread sh.thread).binding = none → sh.first = true → sh.last = false → t₀ ≠ sh.thread →
    (∀ j, s.slot j ≠ .free) → s.slot k = .resting t₀ p₀ e₀ →
    (∀ j t₁ p₁ e₁, s.slot j = .resting t₁ p₁ e₁ →
      (s.aging.periodNo - p₁).toNat ≤ (s.aging.periodNo - p₀).toNat ∧
      ((s.aging.periodNo - p₁).toNat = (s.aging.periodNo - p₀).toNat → k ≤ j)) →
    let t := s.takeShard sh
    (t.slot k).thread = some sh.thread ∧ (t.thread sh.thread).binding = some k ∧
      t.thread t₀ = { s.thread t₀ with binding := none } ∧ t.drops .evictions = s.drops .evictions + 1 ∧
      ∀ j, j ≠ k → t.slot j = s.slot j) ∧
  ∀ (s : State) (sh : DataShard), (s.thread sh.thread).binding = none → sh.first = true →
    (∀ j, (s.slot j).busy = true) →
    s.takeShard sh = (s.bumpDrop .noSlot).raise .noSlot (some sh.thread) (some sh.tag) none none

/-! ## The Slot Table: bound threads -/

/-- A data shard taken for a RESTING slot, by its distance d from expected: the table of 01 R10 (its first row for a shard
without L). -/
def Obligations.RestingSlotJudgesByDistance : Prop :=
  ∀ (s : State) (sh : DataShard) (k : SlotId) (t₀ : ThreadId) (p₀ : PeriodNo) (e : Seq),
    (s.thread sh.thread).binding = some k → s.slot k = .resting t₀ p₀ e →
    let cfg := (s.thread sh.thread).active
    let d := (sh.seq - e).toNat
    let now := s.aging.periodNo
    let t := s.takeShard sh
    let skipping := fun r => t.slot k = .skipping sh.thread now (some sh.tag) r
    let room := (s.cls cfg.cls).usage < (s.cls cfg.cls).quota
    let fillOk := sh.last = false ∨ (5 ≤ sh.fill.toNat ∧ sh.fill.toNat ≤ 56)
    (128 ≤ d → t = (s.setSlot k (.resting t₀ now e)).bumpDrop .behind) ∧
    (d = 0 → sh.first = false → skipping .framing) ∧
    (cfg.window < d → d < 128 → skipping .window) ∧
    (0 < d → d ≤ cfg.window → d < 128 → cfg.limit ≤ d → skipping .overlong) ∧
    (0 < d → d ≤ cfg.window → d < 128 → d < cfg.limit → ¬ fillOk → skipping .framing) ∧
    (0 < d → d ≤ cfg.window → d < 128 → d < cfg.limit → fillOk → ¬ room → skipping .quota) ∧
    (0 < d → d ≤ cfg.window → d < 128 → d < cfg.limit → fillOk → room → s.store.freeList = [] → skipping .store) ∧
    (∀ u rest, 0 < d → d ≤ cfg.window → d < 128 → d < cfg.limit → fillOk → room → s.store.freeList = u :: rest →
      t.slot k = .assembling sh.thread now
        { expected := e, parcelStart := e, parcelTag := none, placed := [], check := 0xFFFFFFFF#32,
          early := [⟨sh.seq, u, sh.tag, sh.first, sh.last, sh.fill⟩],
          lastHeld := if sh.last = true then some d else none }) ∧
    ∀ u rest, d = 0 → sh.first = true → sh.last = false → room → s.store.freeList = u :: rest →
      ∃ check, t.slot k = .assembling sh.thread now
        { expected := e + 1, parcelStart := e, parcelTag := some sh.tag, placed := [u], check := check, early := [],
          lastHeld := none }

/-- A data shard taken for an ASSEMBLING slot is judged in the order of 01 R11 up to the unit claim: behind, beyond window,
duplicate, next parcel, limit, fill, claim. The first check that decides ends the judgement. -/
def Obligations.AssemblingSlotJudgesInOrder : Prop :=
  ∀ (s : State) (sh : DataShard) (k : SlotId) (t₀ : ThreadId) (p₀ : PeriodNo) (a : Assembly),
    (s.thread sh.thread).binding = some k → s.slot k = .assembling t₀ p₀ a →
    let cfg := (s.thread sh.thread).active
    let d := (sh.seq - a.expected).toNat
    let p := (sh.seq - a.parcelStart).toNat
    let now := s.aging.periodNo
    let t := s.takeShard sh
    let stamped := s.setSlot k (.assembling t₀ now a)
    let skipping := fun r => t.slot k = .skipping sh.thread now (some (a.parcelTag.getD sh.tag)) r
    let inWindow := d ≤ cfg.window ∧ d < 128
    let fresh := d = 0 ∨ ∀ f ∈ a.early, f.seq ≠ sh.seq
    let beyond := ∃ h, a.lastHeld = some h ∧ h < p
    let badFill := sh.last = true ∧ (sh.fill.toNat < 5 ∨ 56 < sh.fill.toNat)
    let room := (s.cls cfg.cls).usage < (s.cls cfg.cls).quota
    (128 ≤ d → t = stamped.bumpDrop .behind) ∧
    (cfg.window < d → d < 128 → skipping .window) ∧
    (inWindow → ¬ fresh → t = stamped.bumpDrop .duplicate) ∧
    (inWindow → fresh → beyond → cfg.retain = false → t = stamped.dropOrphan sh.thread) ∧
    (inWindow → fresh → ¬ beyond → cfg.limit ≤ p → skipping .overlong) ∧
    (inWindow → fresh → ¬ beyond → p < cfg.limit → badFill → skipping .framing) ∧
    (inWindow → fresh → ¬ beyond → p < cfg.limit → ¬ badFill → ¬ room → skipping .quota) ∧
    (inWindow → fresh → ¬ beyond → p < cfg.limit → ¬ badFill → room → s.store.freeList = [] → skipping .store) ∧
    (inWindow → fresh → beyond → cfg.retain = true → ¬ room → skipping .quota) ∧
    (inWindow → fresh → beyond → cfg.retain = true → room → s.store.freeList = [] → skipping .store)

/-- A shard held early becomes an entry of the early list at the place its distance gives it; an L of the parcel in progress
sets last-held, a next-parcel entry leaves it; the rest of the parcel is unchanged (01 R11 steps 4 and 8, R18, 02 R31). -/
def Obligations.EarlyShardIsHeldInOrder : Prop :=
  ∀ (s : State) (sh : DataShard) (k : SlotId) (t₀ : ThreadId) (p₀ : PeriodNo) (a : Assembly) (u : UnitNo)
    (rest : List UnitNo),
    (s.thread sh.thread).binding = some k → s.slot k = .assembling t₀ p₀ a →
    let cfg := (s.thread sh.thread).active
    let d := (sh.seq - a.expected).toNat
    let p := (sh.seq - a.parcelStart).toNat
    let beyond := ∃ h, a.lastHeld = some h ∧ h < p
    0 < d → d ≤ cfg.window → d < 128 → (∀ f ∈ a.early, f.seq ≠ sh.seq) →
    (beyond → cfg.retain = true) →
    (¬ beyond → p < cfg.limit ∧ (sh.last = false ∨ (5 ≤ sh.fill.toNat ∧ sh.fill.toNat ≤ 56))) →
    (s.cls cfg.cls).usage < (s.cls cfg.cls).quota → s.store.freeList = u :: rest →
    ∃ before after lastHeld, a.early = before ++ after ∧
      (∀ f ∈ before, (f.seq - a.expected).toNat ≤ d) ∧ (∀ f ∈ after.head?, d < (f.seq - a.expected).toNat) ∧
      (¬ beyond → sh.last = true → lastHeld = some p) ∧ (beyond ∨ sh.last = false → lastHeld = a.lastHeld) ∧
      (s.takeShard sh).slot k = .assembling sh.thread s.aging.periodNo
        { a with early := before ++ ⟨sh.seq, u, sh.tag, sh.first, sh.last, sh.fill⟩ :: after, lastHeld := lastHeld }

/-- A due shard that passes the arrival checks. At position 0 without F it is poisoned with FRAMING, elsewhere without F and
with another tag with TAG; everything held goes back, placed units first, then the early units in list order, then its own.
At position 0 with F, or elsewhere without F and with the parcel tag, it joins the parcel; with F elsewhere it restarts the
parcel, whose old placed units are returned. A shard without L is then followed by the drain: the run of held entries
behind it is placed with it, up to an entry that is not due. A drained entry of another tag poisons with TAG (the place of
its unit in the returned chain is log entry 10), a drained F entry restarts the parcel and the drain goes on from it. Held
entries keep their place and, over a restart, last-held moves with the positions. The last clause states the drain of 01 R17
for every entry, whatever its placement does (01 R14, R16, R17, 02 R27 to R29, R33, R42). -/
def Obligations.DueShardIsPlacedAndDrainsOrPoisons : Prop :=
  (∀ (s : State) (sh : DataShard) (k : SlotId) (t₀ : ThreadId) (p₀ : PeriodNo) (a : Assembly) (u : UnitNo)
    (rest : List UnitNo),
    (s.thread sh.thread).binding = some k → s.slot k = .assembling t₀ p₀ a → sh.seq = a.expected →
    (sh.last = false ∨ 5 ≤ sh.fill.toNat ∧ sh.fill.toNat ≤ 56) →
    (∀ h, a.lastHeld = some h → (sh.seq - a.parcelStart).toNat ≤ h) → s.memoryLaw → sh.payload.length = 56 →
    (∀ e ∈ a.early, e.unit ≠ u) →
    let cfg := (s.thread sh.thread).active
    let now := s.aging.periodNo
    let start := a.parcelStart
    let next := sh.seq + 1
    let length := fun es : List EarlyEntry => BitVec.ofNat 8 es.length
    let t := s.takeShard sh
    let joins := sh.seq = start ∧ sh.first = true ∨ sh.seq ≠ start ∧ sh.first = false ∧ a.parcelTag = some sh.tag
    let poisoned := fun (g : Tag) (r : PoisonReason) (units : List UnitNo) =>
      t.slot k = .skipping sh.thread now (some g) r ∧ t.store.freeList = rest ++ units ∧
        t.parcels r.counter = s.parcels r.counter + 1 ∧ t.slotReports = s.slotReports
    let restarted := t.parcels .framing = s.parcels .framing + 1 ∧ t.slotReports = s.slotReports
    (sh.seq - start).toNat < cfg.limit → (s.cls cfg.cls).usage < (s.cls cfg.cls).quota → s.store.freeList = u :: rest →
    (sh.seq = start → sh.first = false →
      poisoned (a.parcelTag.getD sh.tag) .framing (a.placed ++ unitsOf a.early ++ [u])) ∧
    (sh.seq ≠ start → sh.first = false → a.parcelTag ≠ some sh.tag →
      poisoned (a.parcelTag.getD sh.tag) .tag (a.placed ++ unitsOf a.early ++ [u])) ∧
    (∀ run later, sh.last = false → a.early = run ++ later → notDue (next + length run) later →
      (joins → isRun start sh.tag next run →
        t.slot k = .assembling sh.thread now { a with
          expected := next + length run, parcelTag := some sh.tag, placed := a.placed ++ u :: unitsOf run,
          check := s.checkOver (parcelCheckUpdate a.check sh.payload) run, early := later } ∧
        t.store.freeList = rest ∧ t.slotReports = s.slotReports) ∧
      (sh.seq ≠ start → sh.first = true → isRun sh.seq sh.tag next run →
        t.slot k = .assembling sh.thread now
          { expected := next + length run, parcelStart := sh.seq, parcelTag := some sh.tag, placed := u :: unitsOf run,
            check := s.checkOver (parcelCheckUpdate 0xFFFFFFFF#32 sh.payload) run, early := later,
            lastHeld := a.lastHeld.map (fun h => h - (sh.seq - start).toNat) } ∧
        t.store.freeList = rest ++ a.placed ∧ restarted)) ∧
    ∀ run e more, sh.last = false → joins → a.early = run ++ e :: more → isRun start sh.tag next run →
      e.seq = next + length run → e.seq ≠ start →
      (e.first = false → e.tag ≠ sh.tag →
        poisoned sh.tag .tag (a.placed ++ u :: unitsOf run ++ unitsOf more ++ [e.unit])) ∧
      ∀ behind later, e.first = true → e.last = false → more = behind ++ later →
        isRun e.seq e.tag (e.seq + 1) behind → notDue (e.seq + 1 + length behind) later →
        t.slot k = .assembling sh.thread now
          { expected := e.seq + 1 + length behind, parcelStart := e.seq, parcelTag := some e.tag,
            placed := e.unit :: unitsOf behind, check := s.checkOver 0xFFFFFFFF#32 (e :: behind), early := later,
            lastHeld := a.lastHeld.map (fun h => h - (e.seq - start).toNat) } ∧
        t.store.freeList = rest ++ (a.placed ++ u :: unitsOf run) ∧ restarted) ∧
  ∀ (s : State) (k : SlotId) (x : ThreadId) (stamp : PeriodNo) (a : Assembly),
    let drained := fun (b : Assembly) (z : State) => State.drainEarly k x stamp b.early.length b z
    (notDue a.expected a.early → drained a s = s.setSlot k (.assembling x stamp a)) ∧
    ∀ e more, a.early = e :: more → e.seq = a.expected →
      (∀ z, s.placeShard k x stamp { a with early := more } e = .over z → drained a s = z) ∧
      ∀ b z, s.placeShard k x stamp { a with early := more } e = .more b z → drained a s = drained b z

/-- The placement of an L completes the parcel, whatever is still held early and whatever is pending (`Completion.taken`,
02 R34 to R41): an L that arrives due and joins its parcel; one that carries F and restarts it, whose old units are returned
first; an L drained behind the due shard and the run that follows it; and a shard carrying F and L that starts a parcel, in
a slot it binds (the lowest FREE one, or the evicted oldest RESTING one), in a RESTING slot at expected, or at the end of a
skip, where the pending configuration comes into force first. A parcel so started claims its unit before its fill is checked:
QUOTA and STORE come before FRAMING, which returns the unit (02 R32, R46). -/
def Obligations.LastShardCompletesTheParcel : Prop :=
  (∀ (s : State) (sh : DataShard) (k : SlotId) (t₀ : ThreadId) (p₀ : PeriodNo) (a : Assembly) (u : UnitNo)
    (rest : List UnitNo),
    (s.thread sh.thread).binding = some k → s.slot k = .assembling t₀ p₀ a → sh.seq = a.expected →
    (∀ h, a.lastHeld = some h → (sh.seq - a.parcelStart).toNat ≤ h) → s.memoryLaw → sh.payload.length = 56 →
    (∀ e ∈ a.early, e.unit ≠ u) →
    let cfg := (s.thread sh.thread).active
    let pending := (s.thread sh.thread).pending
    let start := a.parcelStart
    let t := s.takeShard sh
    let joins := sh.seq = start ∧ sh.first = true ∨ sh.seq ≠ start ∧ sh.first = false ∧ a.parcelTag = some sh.tag
    (sh.seq - start).toNat < cfg.limit → (s.cls cfg.cls).usage < (s.cls cfg.cls).quota → s.store.freeList = u :: rest →
    (sh.last = true → 5 ≤ sh.fill.toNat → sh.fill.toNat ≤ 56 →
      (joins → Completion.taken
        { slot := k, thread := sh.thread, config := cfg, pending := pending, tag := sh.tag, units := a.placed ++ [u],
          check := a.check, payload := sh.payload, fill := sh.fill, expected := sh.seq + 1, free := rest,
          held := a.early } s t) ∧
      (sh.seq ≠ start → sh.first = true → Completion.taken
        { slot := k, thread := sh.thread, config := cfg, pending := pending, tag := sh.tag, units := [u],
          check := 0xFFFFFFFF#32, payload := sh.payload, fill := sh.fill, expected := sh.seq + 1,
          free := rest ++ a.placed, held := a.early } (s.bumpParcel .framing) t)) ∧
    ∀ run e more, sh.last = false → joins → a.early = run ++ e :: more → isRun start sh.tag (sh.seq + 1) run →
      e.seq = sh.seq + 1 + BitVec.ofNat 8 run.length → e.seq ≠ start → e.first = false → e.tag = sh.tag →
      e.last = true → Completion.taken
        { slot := k, thread := sh.thread, config := cfg, pending := pending, tag := sh.tag,
          units := a.placed ++ u :: unitsOf run ++ [e.unit],
          check := s.checkOver (parcelCheckUpdate a.check sh.payload) run, payload := s.unitOctets e.unit,
          fill := e.fill, expected := e.seq + 1, free := rest, held := more } s t) ∧
  ∀ (s : State) (sh : DataShard) (k : SlotId) (cfg : ThreadConfig) (pending : Option ThreadConfig),
    sh.first = true → sh.last = true →
    let entry := s.thread sh.thread
    let evicts := (∀ j, s.slot j ≠ .free) ∧ ∃ t₀ p₀ e₀, s.slot k = .resting t₀ p₀ e₀ ∧ t₀ ≠ sh.thread ∧
      ∀ j t₁ p₁ e₁, s.slot j = .resting t₁ p₁ e₁ → (s.aging.periodNo - p₁).toNat ≤ (s.aging.periodNo - p₀).toNat ∧
        ((s.aging.periodNo - p₁).toNat = (s.aging.periodNo - p₀).toNat → k ≤ j)
    let binds := entry.binding = none ∧ (s.slot k = .free ∧ (∀ j, j < k → s.slot j ≠ .free) ∨ evicts)
    let starts := entry.binding = some k ∧ ∃ t₀ p₀, s.slot k = .resting t₀ p₀ sh.seq
    let skipEnds := entry.binding = some k ∧ ∃ t₀ p₀ g r, s.slot k = .skipping t₀ p₀ g r ∧ g ≠ some sh.tag
    ((binds ∨ starts) ∧ cfg = entry.active ∧ pending = entry.pending ∨
      skipEnds ∧ cfg = entry.pending.getD entry.active ∧ cfg.enabled = true ∧ pending = none) →
    let room := (s.cls cfg.cls).usage < (s.cls cfg.cls).quota
    let t := s.takeShard sh
    let skipping := fun r => t.slot k = .skipping sh.thread s.aging.periodNo (some sh.tag) r ∧
      t.parcels (PoisonReason.counter r) = s.parcels r.counter + 1 ∧ t.lanes = s.lanes
    (¬ room → skipping .quota ∧ t.store.freeList = s.store.freeList) ∧
    (room → s.store.freeList = [] → skipping .store ∧ t.store.freeList = []) ∧
    ∀ u rest, room → s.store.freeList = u :: rest →
      (sh.fill.toNat < 5 ∨ 56 < sh.fill.toNat → skipping .framing ∧ t.store.freeList = rest ++ [u]) ∧
      (5 ≤ sh.fill.toNat → sh.fill.toNat ≤ 56 → s.memoryLaw → sh.payload.length = 56 → Completion.taken
        { slot := k, thread := sh.thread, config := cfg, pending := pending, tag := sh.tag, units := [u],
          check := 0xFFFFFFFF#32, payload := sh.payload, fill := sh.fill, expected := sh.seq + 1, free := rest,
          held := [] } s t)

/-- A completion that finds a pending configuration applies it and displaces every entry still held: its units go back in
list order and DISPLACED counts each; the slot then rests or is FREE by the configuration now in force, with its report
(02 R39, 03 R56, R57). -/
def Obligations.PendingConfigurationDisplacesHeldEntries : Prop :=
  ∀ (s : State) (k : SlotId) (x : ThreadId) (stamp : PeriodNo) (expected : Seq) (held : List EarlyEntry)
    (c : ThreadConfig), (s.thread x).pending = some c →
    ∃ t, s.finishParcel k x stamp expected held = .over t ∧
      t.store.freeList = s.store.freeList ++ held.map EarlyEntry.unit ∧
      t.drops .displaced = s.drops .displaced + BitVec.ofNat 32 held.length ∧
      (t.thread x).active = c ∧ (t.thread x).pending = none ∧ t.slotReports = s.slotReports + 1 ∧
      (c.retain = true ∧ c.enabled = true → t.slot k = .resting x stamp expected) ∧
      (c.retain = false ∨ c.enabled = false → t.slot k = .free ∧ (t.thread x).binding = none) ∧
      (∀ j, j ≠ k → t.slot j = s.slot j) ∧ t.lanes = s.lanes ∧ t.store.octets = s.store.octets

/-- A poison returns everything held as one chain, counts one discard under its reason, raises one notice with the thread
and the skip tag, and leaves the slot SKIPPING; the Thread Map, the other slots, the lanes and the octets are unchanged and
no report is made (02 R42). -/
def Obligations.PoisonReturnsEverythingHeld : Prop :=
  ∀ (s : State) (k : SlotId) (x : ThreadId) (stamp : PeriodNo) (held : List UnitNo) (g : Option Tag) (r : PoisonReason),
    let t := s.poison k x stamp held g r
    t.store.freeList = s.store.freeList ++ held ∧ t.slot k = .skipping x stamp g r ∧
      t.parcels r.counter = s.parcels r.counter + 1 ∧
      t.ret = ((s.returnChain held).raise r.notice (some x) g none none).ret ∧
      (∀ j, j ≠ k → t.slot j = s.slot j) ∧ t.threads = s.threads ∧ t.lanes = s.lanes ∧
      t.slotReports = s.slotReports ∧ t.store.octets = s.store.octets ∧ t.orphanTally = s.orphanTally

/-- A data shard taken for a SKIPPING slot, by the skip tag and its marks: the table of 02 R44. Where the skip ends, a pending
configuration comes into force first; by an L the slot then rests or is FREE, and is reported (R45); by an F the shard starts
a parcel, or is dropped as DISABLED with the slot FREE where the thread is no longer enabled (R46). A start by a shard
carrying F and L is stated in LastShardCompletesTheParcel. -/
def Obligations.SkippingSlotJudgesByTagAndMarks : Prop :=
  ∀ (s : State) (sh : DataShard) (k : SlotId) (t₀ : ThreadId) (p₀ : PeriodNo) (g : Option Tag) (r : PoisonReason),
    (s.thread sh.thread).binding = some k → s.slot k = .skipping t₀ p₀ g r →
    let cfg := (s.thread sh.thread).pending.getD (s.thread sh.thread).active
    let now := s.aging.periodNo
    let t := s.takeShard sh
    let inForce := (t.thread sh.thread).active = cfg ∧ (t.thread sh.thread).pending = none
    let stays := t = (s.setSlot k (.skipping t₀ now g r)).bumpDrop .skipped
    let ends := t.drops .skipped = s.drops .skipped + 1 ∧ t.slotReports = s.slotReports + 1 ∧ inForce ∧
      (cfg.retain = true ∧ cfg.enabled = true → t.slot k = .resting sh.thread now (sh.seq + 1)) ∧
      (cfg.retain = false ∨ cfg.enabled = false → t.slot k = .free ∧ (t.thread sh.thread).binding = none)
    (g = some sh.tag → sh.last = true → ends) ∧
    (g = some sh.tag → sh.last = false → stays) ∧
    (g ≠ some sh.tag → g.isSome = true → sh.first = false → stays) ∧
    (g = none → sh.first = false → sh.last = true → ends) ∧
    (g = none → sh.first = false → sh.last = false → stays) ∧
    (∀ u rest, g ≠ some sh.tag → sh.first = true → sh.last = false → cfg.enabled = true →
      (s.cls cfg.cls).usage < (s.cls cfg.cls).quota → s.store.freeList = u :: rest →
      (∃ check, t.slot k = .assembling sh.thread now
        { expected := sh.seq + 1, parcelStart := sh.seq, parcelTag := some sh.tag, placed := [u], check := check,
          early := [], lastHeld := none }) ∧
      t.slotReports = s.slotReports ∧ t.drops .skipped = s.drops .skipped ∧ inForce) ∧
    (g ≠ some sh.tag → sh.first = true → cfg.enabled = false →
      t.slot k = .free ∧ (t.thread sh.thread).binding = none ∧ inForce ∧ t.drops .disabled = s.drops .disabled + 1 ∧
      t.slotReports = s.slotReports + 1 ∧ t.store = s.store)

/-! ## The Parcel Store -/

/-- A claim is judged in the order of 04 R68: QUOTA, then STORE, then success, which takes the head of the free list, writes
the payload and the class into it, and adds 1 to the usage of the class. -/
def Obligations.ClaimIsJudgedInOrder : Prop :=
  ∀ (s : State) (c : ClassId) (payload : List Byte),
    ((s.cls c).quota ≤ (s.cls c).usage → s.claim c payload = .failed .quota) ∧
    ((s.cls c).usage < (s.cls c).quota → s.store.freeList = [] → s.claim c payload = .failed .store) ∧
    ∀ u rest, (s.cls c).usage < (s.cls c).quota → s.store.freeList = u :: rest →
      ∃ t, s.claim c payload = .taken u t ∧ t.store.freeList = rest ∧ t.store.unitClass[u.val] = some c ∧
        (t.cls c).usage = (s.cls c).usage + 1 ∧ (∀ d, d ≠ c → t.cls d = s.cls d) ∧
        (∀ w : UnitNo, w ≠ u → t.store.unitClass[w.val] = s.store.unitClass[w.val]) ∧
        (s.memoryLaw → payload.length = 56 → t.unitOctets u = payload) ∧
        t.slots = s.slots ∧ t.threads = s.threads ∧ t.lanes = s.lanes

/-- A claim writes the 56 octets of the unit it takes and no other octet: every other unit keeps its octets (04 R64). -/
def Obligations.ClaimWritesOneUnit : Prop :=
  ∀ (s t : State) (c : ClassId) (payload : List Byte) (u : UnitNo), s.memoryLaw → payload.length = 56 →
    s.claim c payload = .taken u t →
    (∀ a, a < unitAddress u ∨ unitAddress u + 56 ≤ a → Memory.read t.store.octets a = Memory.read s.store.octets a) ∧
      (∀ w, w ≠ u → t.unitOctets w = s.unitOctets w) ∧ t.memoryLaw

/-- A returned chain of distinct units in use is counted off the classes it was claimed for, loses its class records, and
joins the tail of the free list in chain order; octets, settings and congestion states are unchanged (04 R65, R67, R71). -/
def Obligations.ReturnedChainJoinsTheTail : Prop :=
  ∀ (s : State) (chain : List UnitNo), chain.Nodup → (∀ u ∈ chain, s.store.unitClass[u.val] ≠ none) →
    let t := s.returnChain chain
    t.store.freeList = s.store.freeList ++ chain ∧ t.store.octets = s.store.octets ∧
      (∀ u ∈ chain, t.store.unitClass[u.val] = none) ∧
      (∀ u, u ∉ chain → t.store.unitClass[u.val] = s.store.unitClass[u.val]) ∧
      ∀ c, (t.cls c).usage = (s.cls c).usage - chain.countP (fun u => s.store.unitClass[u.val] == some c) ∧
        (t.cls c).quota = (s.cls c).quota ∧ (t.cls c).warn = (s.cls c).warn ∧
        (t.cls c).congested = (s.cls c).congested

/-- A re-judgement of a class: CLEAR with its usage at or above the warn level it becomes CONGESTED, CONGESTED with its
usage at or below the clear level and below the warn level it becomes CLEAR, and otherwise nothing changes. The clear level
is WARN less HYSTERESIS, and 0 where HYSTERESIS is greater. Each change adds 1 to CONGESTION_CHANGES, and the congestion
status is pending or has begun (04 R73, R74, R78). -/
def Obligations.RejudgementMovesCongestion : Prop :=
  ∀ (s : State) (c : ClassId),
    let t := s.rejudge c
    let clear := (s.cls c).warn - s.store.hysteresis
    let moved := t.device .congestionChanges = s.device .congestionChanges + 1 ∧ (∀ d, d ≠ c → t.cls d = s.cls d) ∧
      (t.ret.congestionPending = true ∨ s.ret.onLink = none ∧ t.ret.onLink =
        some ⟨s.ret.sequence, .congestion [(t.cls 0).congested, (t.cls 1).congested, (t.cls 2).congested,
          (t.cls 3).congested] [(t.cls 0).usage, (t.cls 1).usage, (t.cls 2).usage, (t.cls 3).usage]⟩)
    ((s.cls c).congested = false → (s.cls c).warn ≤ (s.cls c).usage →
      t.cls c = { s.cls c with congested := true } ∧ moved) ∧
    ((s.cls c).congested = true → (s.cls c).usage ≤ clear → (s.cls c).usage < (s.cls c).warn →
      t.cls c = { s.cls c with congested := false } ∧ moved) ∧
    ((s.cls c).congested = false → (s.cls c).usage < (s.cls c).warn → t = s) ∧
    ((s.cls c).congested = true → clear < (s.cls c).usage ∨ (s.cls c).warn ≤ (s.cls c).usage → t = s)

/-! ## The egress lanes -/

/-- A grant adds its block count, the low twelve bits of its word, to the credit of its lane, saturating at 4095 with
GRANT_OVERFLOW counted where blocks are lost; a WAITING lane then starts its head where the credit suffices. A count of 0
changes nothing (06 R94, R95, R98, 11 R167). -/
def Obligations.GrantAddsToTheCredit : Prop :=
  ∀ (s : State) (n : LaneId) (w : BitVec 16), s.mode ≠ .starting → (s.lane n).credit ≤ 4095 → (s.lane n).shape →
    let g := w.toNat % 4096
    let sum := (s.lane n).credit + g
    let credit := min sum 4095
    let counted := if 4095 < sum then s.bumpLane n .grantOverflow 1 else s
    ((s.lane n).state ≠ .waiting →
      exec (.grant n w) s = .next (counted.setLane n { s.lane n with credit := credit })) ∧
    (∀ d rest, (s.lane n).state = .waiting → (s.lane n).queue = d :: rest →
      (credit < (d.length + 63) / 64 →
        exec (.grant n w) s = .next (counted.setLane n { s.lane n with credit := credit })) ∧
      ((d.length + 63) / 64 ≤ credit →
        exec (.grant n w) s = .next (counted.setLane n { s.lane n with
          credit := credit - (d.length + 63) / 64, queue := rest, emission := some d, stallTimer := none,
          state := .sending }))) ∧
    (g = 0 → exec (.grant n w) s = .next s)

/-- The end of an emission that does not end a DRAIN (none is in progress, the mode is not CLOSED, or a lane still holds
a descriptor): the units of the frame go back as one chain, EMITTED counts 1, and the frame the lane has sent is the
eight header octets and the first `length` octets of the unit chain (that the lane keeps a record of it is log entry
11). From STOPPING the lane is STOPPED with its queue and credit; from SENDING its next head is judged. No notice is
raised. With no emission there is no end (log entry 4, the model's choice) (06 R94 to R97, 11 R167). -/
def Obligations.EmissionEndReturnsTheUnits : Prop :=
  (∀ (s : State) (n : LaneId), (s.lane n).emission = none → exec (.emissionEnd n) s = .next s) ∧
  ∀ (s : State) (n : LaneId) (d : Descriptor), s.settled →
    (s.engine.inProgress = none ∨ s.mode ≠ .closed ∨ (s.lane n).queue ≠ [] ∨
      ∃ m, m ≠ n ∧ ((s.lane m).queue ≠ [] ∨ (s.lane m).state = .sending ∨ (s.lane m).state = .stopping)) →
    (s.lane n).emission = some d →
    let l := s.lane n
    let thread := BitVec.ofNat 16 d.thread.val
    let length := BitVec.ofNat 16 d.length
    let frame := [thread.extractLsb' 8 8, thread.extractLsb' 0 8, d.tag.extractLsb' 8 8, d.tag.extractLsb' 0 8,
      BitVec.ofNat 8 d.cls.val, 0, length.extractLsb' 8 8, length.extractLsb' 0 8] ++
        (d.units.flatMap s.unitOctets).take d.length
    let ended := { l with emission := none, lastFrame := .whole frame }
    ∃ t : State, exec (.emissionEnd n) s = .next t ∧ t.store.freeList = s.store.freeList ++ d.units ∧
      t.laneCounter n .emitted = s.laneCounter n .emitted + 1 ∧
      (l.state = .stopping → t.lane n = { ended with state := .stopped }) ∧
      (l.state = .sending → l.queue = [] → t.lane n = { ended with state := .idle, stallTimer := none }) ∧
      (∀ e rest, l.state = .sending → l.queue = e :: rest →
        ((e.length + 63) / 64 ≤ l.credit → t.lane n = { ended with
          credit := l.credit - (e.length + 63) / 64, queue := rest, emission := some e, stallTimer := none }) ∧
        (l.credit < (e.length + 63) / 64 → t.lane n = { ended with
          state := .waiting, stallTimer := if l.stallLimit = 0 then none else some l.stallLimit })) ∧
      (∀ m, m ≠ n → t.lane m = s.lane m) ∧ t.slots = s.slots ∧ t.threads = s.threads ∧
      t.store.octets = s.store.octets ∧ t.aging = s.aging ∧ t.mode = s.mode ∧ t.engine = s.engine ∧
      t.ret.lostNotices = s.ret.lostNotices ∧ t.slotReports = s.slotReports

/-- The expiry of a lane's running stall timer that does not end a DRAIN (none is in progress, the mode is not CLOSED,
or a lane still holds a descriptor): the head is discarded, its units go back, STALLED is counted, and noticed with the
periods the descriptor was held; the next head is judged with the credit as it was, its timer started afresh where it
waits. On a lane not WAITING with its timer running there is no expiry (log entry 4, the model's choice) (06 R94, R99,
R100, 10 R156, R157). -/
def Obligations.StallExpiryDiscardsTheHead : Prop :=
  (∀ (s : State) (n : LaneId), (s.lane n).state ≠ .waiting ∨ (s.lane n).stallTimer = none →
    exec (.stallExpiry n) s = .next s) ∧
  ∀ (s : State) (n : LaneId) (d : Descriptor) (rest : List Descriptor), s.settled →
    (s.engine.inProgress = none ∨ s.mode ≠ .closed ∨ rest ≠ [] ∨
      ∃ m, m ≠ n ∧ ((s.lane m).queue ≠ [] ∨ (s.lane m).state = .sending ∨ (s.lane m).state = .stopping)) →
    (s.lane n).state = .waiting → (s.lane n).stallTimer.isSome = true → (s.lane n).queue = d :: rest →
    let l := s.lane n
    ∃ t : State, exec (.stallExpiry n) s = .next t ∧ t.store.freeList = s.store.freeList ++ d.units ∧
      t.laneCounter n .stalled = s.laneCounter n .stalled + 1 ∧
      (rest = [] → t.lane n = { l with queue := [], state := .idle, stallTimer := none }) ∧
      (∀ e more, rest = e :: more →
        ((e.length + 63) / 64 ≤ l.credit → t.lane n = { l with
          credit := l.credit - (e.length + 63) / 64, queue := more, emission := some e, stallTimer := none,
          state := .sending }) ∧
        (l.credit < (e.length + 63) / 64 → t.lane n = { l with
          queue := rest, stallTimer := if l.stallLimit = 0 then none else some l.stallLimit })) ∧
      (s.ret.noticeMask.getLsbD 12 = true → s.ret.notices.length < 16 → s.ret.onLink.isSome = true →
        t.ret.notices = s.ret.notices ++ [⟨.stalled, some d.thread, some d.tag, some n,
          some (s.aging.periodNo - d.completionPeriod), s.aging.periodNo, s.ret.lostNotices⟩]) ∧
      (∀ m, m ≠ n → t.lane m = s.lane m) ∧ t.slots = s.slots ∧ t.threads = s.threads ∧
      t.store.octets = s.store.octets ∧ t.aging = s.aging ∧ t.mode = s.mode ∧ t.engine = s.engine

/-- LANE START and LANE STOP by the state of the lane, taken at once by a ready engine, with the reply that shows the lane
after the action; a lane number outside 0 to 3 gets RANGE from all three actions and changes nothing (06 R94, R95, R99,
R102, R103, 08 R131). -/
def Obligations.LaneStartAndStopActByState : Prop :=
  ∀ (s : State) (num : BitVec 16), s.ready →
    (∀ (n : LaneId),
      let b := BitVec.ofNat 8 n.val
      let l := s.lane n
      let answered := fun m : Lane => Host.Outcome.next
        ((s.setLane n m).queueReply ⟨num, 0x07, .done, .lane m.state m.queue.length m.credit 0⟩)
      (l.state = .idle ∨ l.state = .waiting ∨ l.state = .sending → exec (.laneStart num b) s = answered l) ∧
      (l.state = .stopping → exec (.laneStart num b) s = answered { l with state := .sending }) ∧
      (l.state = .stopped → l.queue = [] →
        exec (.laneStart num b) s = answered { l with state := .idle, stallTimer := none }) ∧
      (∀ d rest, l.state = .stopped → l.queue = d :: rest →
        ((d.length + 63) / 64 ≤ l.credit → exec (.laneStart num b) s = answered { l with
          credit := l.credit - (d.length + 63) / 64, queue := rest, emission := some d, stallTimer := none,
          state := .sending }) ∧
        (l.credit < (d.length + 63) / 64 → exec (.laneStart num b) s = answered { l with
          state := .waiting, stallTimer := if l.stallLimit = 0 then none else some l.stallLimit })) ∧
      (l.state = .idle → exec (.laneStop num b) s = answered { l with state := .stopped }) ∧
      (l.state = .waiting → exec (.laneStop num b) s = answered { l with state := .stopped, stallTimer := none }) ∧
      (l.state = .sending → exec (.laneStop num b) s = answered { l with state := .stopping }) ∧
      (l.state = .stopped ∨ l.state = .stopping → exec (.laneStop num b) s = answered l)) ∧
    ∀ b : Byte, 4 ≤ b.toNat →
      let declined := Host.Outcome.next (s.queueReply ⟨num, 0x07, .range, .empty⟩)
      exec (.laneStart num b) s = declined ∧ exec (.laneStop num b) s = declined ∧ exec (.laneFlush num b) s = declined

/-- LANE FLUSH, taken at once by a ready engine: the queue is emptied and its units go back, descriptor by descriptor in
queue order; FLUSHED grows by their number and one notice carries it; a WAITING lane becomes IDLE with its timer stopped;
the current emission and the credit stay. Of an empty queue nothing is flushed and nothing changes (06 R104, 08 R131). -/
def Obligations.LaneFlushEmptiesTheQueue : Prop :=
  ∀ (s : State) (num : BitVec 16) (n : LaneId), s.ready → s.settled →
    let l := s.lane n
    let count := l.queue.length
    let state := if l.state = .waiting then LaneState.idle else l.state
    ∃ t : State, exec (.laneFlush num (BitVec.ofNat 8 n.val)) s =
        .next (t.queueReply ⟨num, 0x07, .done, .lane state 0 l.credit count⟩) ∧
      t.lane n = { l with queue := [], state := state,
                          stallTimer := if l.state = .waiting then none else l.stallTimer } ∧
      t.store.freeList = s.store.freeList ++ l.queue.flatMap Descriptor.units ∧
      t.laneCounter n .flushed = s.laneCounter n .flushed + BitVec.ofNat 32 count ∧
      (count ≠ 0 → s.ret.noticeMask.getLsbD 13 = true → s.ret.notices.length < 16 → s.ret.onLink.isSome = true →
        t.ret.notices = s.ret.notices ++ [⟨.flushed, none, none, some n, some (BitVec.ofNat 16 count),
          s.aging.periodNo, s.ret.lostNotices⟩]) ∧
      (count = 0 → l.state ≠ .waiting → t = s) ∧
      (∀ m, m ≠ n → t.lane m = s.lane m) ∧ t.slots = s.slots ∧ t.threads = s.threads ∧
      t.store.octets = s.store.octets ∧ t.aging = s.aging ∧ t.mode = s.mode ∧ t.engine = s.engine

/-! ## Aging -/

/-- A period expiry advances the period number by 1 modulo 65 536, begins the next period at the PERIOD setting, and starts
or owes a scan: IDLE begins one at slot 0; SCANNING sets expiry pending, or, where it is set, counts AGING_OVERRUN. Nothing
else changes. With the timer stopped there is no expiry (log entry 4, the model's choice) (05 R83). -/
def Obligations.PeriodExpiryAdvancesThePeriod : Prop :=
  ∀ s : State, (s.aging.timer = none → exec .periodExpiry s = .next s) ∧
    (s.aging.timer.isSome = true →
      let a := { s.aging with periodNo := s.aging.periodNo + 1, timer := some s.aging.period }
      (s.aging.cursor = none → exec .periodExpiry s = .next { s with aging := { a with cursor := some 0 } }) ∧
      (s.aging.cursor.isSome = true → s.aging.expiryPending = false →
        exec .periodExpiry s = .next { s with aging := { a with expiryPending := true } }) ∧
      (s.aging.cursor.isSome = true → s.aging.expiryPending = true →
        exec .periodExpiry s = .next ({ s with aging := a }.bumpDevice .agingOverrun)))

/-- The visit of a scan to the slot at its cursor moves the cursor on; after slot 95 the scan ends, or a new one begins
where an expiry was pending. FREE and RESTING slots, and parcels in progress whose age is below their thread's timeout, are
passed over unchanged. A parcel in progress whose age has reached it is reaped: its units go back, its parcel's end applies
a pending configuration, its thread is unbound, its slot is FREE and reported, and REAPED is counted and noticed with the
age. Without a scan in flight there is no visit (log entry 4, the model's choice) (05 R84 to R86, 03 R56). -/
def Obligations.ScanVisitReapsByAge : Prop :=
  ∀ s : State, (s.aging.cursor = none → exec .scanVisit s = .next s) ∧
    ∀ k : SlotId, s.aging.cursor = some k →
      let after : Aging :=
        if k.val < 95 then { s.aging with cursor := some (Fin.ofNat 96 (k.val + 1)) }
        else if s.aging.expiryPending = true then { s.aging with cursor := some 0, expiryPending := false }
        else { s.aging with cursor := none }
      let passed := exec .scanVisit s = .next { s with aging := after }
      let reaped := fun (x : ThreadId) (p : PeriodNo) (units : List UnitNo) (g : Option Tag) =>
        ∃ t : State, exec .scanVisit s = .next t ∧ t.aging = after ∧ t.slot k = .free ∧
          t.thread x = { active := (s.thread x).pending.getD (s.thread x).active, pending := none, binding := none } ∧
          t.store.freeList = s.store.freeList ++ units ∧ t.parcels .reaped = s.parcels .reaped + 1 ∧
          t.slotReports = s.slotReports + 1 ∧
          (s.ret.noticeMask.getLsbD 1 = true → s.ret.notices.length < 16 → s.ret.onLink.isSome = true →
            t.ret.notices = s.ret.notices ++ [⟨.reaped, some x, g, none, some (s.aging.periodNo - p),
              s.aging.periodNo, s.ret.lostNotices⟩]) ∧
          (∀ j, j ≠ k → t.slot j = s.slot j) ∧ (∀ y, y ≠ x → t.thread y = s.thread y) ∧ t.lanes = s.lanes ∧
          t.store.octets = s.store.octets ∧ t.mode = s.mode ∧ t.engine = s.engine ∧
          (∀ c, t.drops c = s.drops c)
      (s.slot k = .free → passed) ∧ (∀ x p e, s.slot k = .resting x p e → passed) ∧
      (∀ x p a, s.slot k = .assembling x p a →
        ((s.aging.periodNo - p).toNat < (s.thread x).active.timeout → passed) ∧
        (s.settled → (s.thread x).active.timeout ≤ (s.aging.periodNo - p).toNat →
          reaped x p (a.placed ++ a.early.map EarlyEntry.unit) a.parcelTag)) ∧
      ∀ x p g r, s.slot k = .skipping x p g r →
        ((s.aging.periodNo - p).toNat < (s.thread x).active.timeout → passed) ∧
        (s.settled → (s.thread x).active.timeout ≤ (s.aging.periodNo - p).toNat → reaped x p [] g)

/-! ## Closing and draining -/

/-- A slot report is one event: in CLOSING with no slot ASSEMBLING or SKIPPING it makes the mode CLOSED, and ends a DRAIN in
progress with DONE where no lane holds anything; otherwise it only counts as taken. With no report made there is none to
take (log entries 4 and 5, the model's choice) (09 R143, 08 R134, R135). -/
def Obligations.CloseJudgementTakesOneReport : Prop :=
  ∀ s : State, (s.slotReports = 0 → exec .closeJudgement s = .next s) ∧
    (0 < s.slotReports →
      let taken := { s with slotReports := s.slotReports - 1 }
      (s.mode ≠ .closing ∨ 0 < s.busySlots → exec .closeJudgement s = .next taken) ∧
      (s.mode = .closing → s.busySlots = 0 →
        (s.engine.inProgress = none → exec .closeJudgement s = .next { taken with mode := .closed }) ∧
        (∀ n : LaneId, (s.lane n).queue ≠ [] ∨ (s.lane n).state = .sending ∨ (s.lane n).state = .stopping →
          exec .closeJudgement s = .next { taken with mode := .closed }) ∧
        (∀ r, s.engine.inProgress = some r → s.engine.queue = [] →
          (∀ n, (s.lane n).queue = [] ∧ (s.lane n).state ≠ .sending ∧ (s.lane n).state ≠ .stopping ∧
            (s.lane n).emission = none) →
          exec .closeJudgement s = .next ({ taken with
            mode := .closed
            engine := { s.engine with inProgress := none, reserved := false, drainTimer := none } }.queueReply
              ⟨r.number, r.code, .done, .drain .closed 0 0⟩))))

/-- DRAIN, taken at once by a ready engine: REFUSED in INIT; in RUN and CLOSING the mode is CLOSING, or CLOSED where no slot
is ASSEMBLING or SKIPPING; the reply is DONE where the device is CLOSED and no lane holds anything, and otherwise the
engine is WORKING with the timer started at DRAIN_LIMIT and the reply reservation held (08 R133, R134, 09 R142). That the
request kept in progress has 0x00 in its 53 operand octets is the model's choice for the row (log entries 3 and 19). -/
def Obligations.DrainIsJudgedByTheMode : Prop :=
  ∀ (s : State) (num : BitVec 16), s.ready →
    let working := fun m : Mode => Host.Outcome.next { s with
      mode := m
      engine := { s.engine with
        inProgress := some ⟨num, 0x09, List.replicate 53 0⟩, reserved := true,
        drainTimer := some s.engine.drainLimit } }
    (s.mode = .init → exec (.drain num) s = .next (s.queueReply ⟨num, 0x09, .refused, .empty⟩)) ∧
    (s.mode = .run ∨ s.mode = .closing → 0 < s.busySlots → exec (.drain num) s = working .closing) ∧
    (s.mode = .run ∨ s.mode = .closing ∨ s.mode = .closed → s.busySlots = 0 →
      (∀ n : LaneId, (s.lane n).queue ≠ [] ∨ (s.lane n).state = .sending ∨ (s.lane n).state = .stopping →
        exec (.drain num) s = working .closed) ∧
      ((∀ n, (s.lane n).queue = [] ∧ (s.lane n).state ≠ .sending ∧ (s.lane n).state ≠ .stopping ∧
          (s.lane n).emission = none) →
        exec (.drain num) s = .next ({ s with mode := .closed }.queueReply ⟨num, 0x09, .done, .drain .closed 0 0⟩)))

/-- The expiry of the drain timer ends the DRAIN in progress with TIMEOUT and the counts as they stand, in the mode as it
stands; with no drain in progress there is no expiry (log entry 4, the model's choice). In CLOSED the end of the last
emission, and the stall discard of the last descriptor, that leaves every lane empty ends it with DONE (08 R134 to R136,
06 R100, R109). No request waits behind the DRAIN here. -/
def Obligations.DrainEndsAtItsTimerOrTheLastLane : Prop :=
  (∀ s : State, s.engine.inProgress = none ∨ s.engine.drainTimer = none → exec .drainTimerExpiry s = .next s) ∧
  (∀ (s : State) (r : Request), s.engine.inProgress = some r → s.engine.drainTimer.isSome = true → s.engine.queue = [] →
    let held := fun n : LaneId => (s.lane n).queue.length + if (s.lane n).emission = none then 0 else 1
    exec .drainTimerExpiry s = .next ({ s with
      engine := { s.engine with inProgress := none, reserved := false, drainTimer := none } }.queueReply
        ⟨r.number, r.code, .timeout, .drain s.mode s.busySlots (held 0 + held 1 + held 2 + held 3)⟩)) ∧
  ∀ (s : State) (r : Request) (n : LaneId) (d : Descriptor), s.engine.inProgress = some r → s.engine.queue = [] →
    s.mode = .closed → s.busySlots = 0 →
    (∀ m, m ≠ n → (s.lane m).queue = [] ∧ (s.lane m).state ≠ .sending ∧ (s.lane m).state ≠ .stopping ∧
      (s.lane m).emission = none) →
    let done := fun i : Instr =>
      ∃ t : State, exec i s = .next (t.queueReply ⟨r.number, r.code, .done, .drain .closed 0 0⟩) ∧
        t.engine = { s.engine with inProgress := none, reserved := false, drainTimer := none } ∧ t.mode = .closed ∧
        t.store.freeList = s.store.freeList ++ d.units ∧ (t.lane n).queue = [] ∧ (t.lane n).emission = none
    ((s.lane n).emission = some d → (s.lane n).queue = [] → done (.emissionEnd n)) ∧
    ((s.lane n).state = .waiting → (s.lane n).stallTimer.isSome = true → (s.lane n).emission = none →
      (s.lane n).queue = [d] → done (.stallExpiry n))

/-! ## The return link -/

/-- The end of a return shard makes the link IDLE, and the arbiter chooses again: the congestion status unless the
full-restart hold is set, then the head of the reply queue, then the head of the notice queue. The chosen shard carries the
return sequence, which advances by 1 modulo 256; a reply clears the hold and its freed place is judged by the engine. On an
IDLE link there is no end (log entry 4, the model's choice) (10 R151 to R153, R155, R160). The 64 octets of the shard on the
link are those of the tables of 11 R165, its kind and return sequence first and 0x00 wherever no table assigns an octet; what a
READ_SLOT reply holds past its early units is left open (log entry 21). -/
def Obligations.ReturnShardsAreChosenByRankAndLaidOut : Prop :=
  (∀ (s : State) (q : Seq) (c : ReturnContent), s.ret.onLink = some ⟨q, c⟩ →
    let sent := fun (kind : Byte) (octets : List Byte) =>
      s.returnOctets = some (kind :: q :: (octets ++ List.replicate (62 - octets.length) 0))
    (∀ r, c = .reply r → ∃ result, r.result.laidOut result ∧
      sent 0x01 (twoOctets r.number ++ [r.code, BitVec.ofNat 8 r.status.code] ++ result)) ∧
    (∀ m, c = .notice m → ∃ presence : Byte, presence.toNat < 16 ∧
      presence.getLsbD 0 = m.thread.isSome ∧ presence.getLsbD 1 = m.tag.isSome ∧
      presence.getLsbD 2 = m.lane.isSome ∧ presence.getLsbD 3 = m.count.isSome ∧
      sent 0x02 ([BitVec.ofNat 8 m.kind.code, presence] ++ numberOctets ((m.thread.map Fin.val).getD 0) ++
        twoOctets (m.tag.getD 0) ++ [BitVec.ofNat 8 ((m.lane.map Fin.val).getD 0)] ++ twoOctets (m.count.getD 0) ++
        twoOctets m.periodNo ++ numberOctets m.lostBefore)) ∧
    ∀ f₀ f₁ f₂ f₃ u₀ u₁ u₂ u₃, c = .congestion [f₀, f₁, f₂, f₃] [u₀, u₁, u₂, u₃] →
      ∃ flags : Byte, flags.toNat < 16 ∧ flags.getLsbD 0 = f₀ ∧ flags.getLsbD 1 = f₁ ∧ flags.getLsbD 2 = f₂ ∧
        flags.getLsbD 3 = f₃ ∧
        sent 0x03 (flags :: (numberOctets u₀ ++ numberOctets u₁ ++ numberOctets u₂ ++ numberOctets u₃))) ∧
  ([NoticeKind.started, .reaped, .window, .overlong, .framing, .tag, .check, .store, .quota, .noSlot, .laneFull, .cut,
      .stalled, .flushed, .orphanBurst].map NoticeKind.code = List.range 15 ∧
    [Status.done, .stored, .replaced, .nothing, .refused, .range, .readOnly, .unknown, .queueFull, .timeout].map
      Status.code = List.range 10 ∧
    [SlotState.free, .assembling, .skipping, .resting].map SlotState.code = List.range 4 ∧
    [LaneState.stopped, .idle, .waiting, .sending, .stopping].map LaneState.code = List.range 5 ∧
    [Mode.init, .run, .closing, .closed].map Mode.code = [1, 2, 3, 4]) ∧
  ∀ s : State, (s.ret.onLink = none → exec .returnShardEnd s = .next s) ∧
    (s.ret.onLink.isSome = true →
      let held := s.ret.congestionPending = false ∨ s.ret.fullRestartHold = true
      let begins := fun c : ReturnContent => { s.ret with onLink := some ⟨s.ret.sequence, c⟩, sequence := s.ret.sequence + 1 }
      (s.ret.congestionPending = true → s.ret.fullRestartHold = false →
        exec .returnShardEnd s = .next { s with ret := { begins (.congestion
          [(s.cls 0).congested, (s.cls 1).congested, (s.cls 2).congested, (s.cls 3).congested]
          [(s.cls 0).usage, (s.cls 1).usage, (s.cls 2).usage, (s.cls 3).usage]) with congestionPending := false } }) ∧
      (∀ p rest, held → s.ret.replies = p :: rest →
        exec .returnShardEnd s = .next
          { s with ret := { begins (.reply p) with replies := rest, fullRestartHold := false } }.serve) ∧
      (∀ m rest, held → s.ret.replies = [] → s.ret.notices = m :: rest →
        exec .returnShardEnd s = .next { s with ret := { begins (.notice m) with notices := rest } }) ∧
      (held → s.ret.replies = [] → s.ret.notices = [] →
        exec .returnShardEnd s = .next { s with ret := { s.ret with onLink := none } }))

/-- Submissions. A reply queued while a shard is on the link joins the tail of the reply queue; on an IDLE link on which
nothing waits it begins at once. A raised notice is discarded where its kind is masked, lost to a full queue, with the
lost-notice count saturating and NOTICES_LOST counted, or queued with the lost-notice count as its lost-before field; on
an IDLE link on which nothing waits it begins at once. A congestion change handed on while a shard is on the link is
counted and makes the congestion status pending (10 R152, R153, R155 to R157, R159). -/
def Obligations.SubmissionsJoinTheirQueues : Prop :=
  ∀ s : State,
    let waits := s.ret.onLink.isSome = true
    let idle := s.ret.onLink = none ∧ s.ret.replies = [] ∧ s.ret.notices = [] ∧ s.ret.congestionPending = false
    (∀ p : Reply,
      (waits → s.queueReply p = { s with ret := { s.ret with replies := s.ret.replies ++ [p] } }) ∧
      (idle → s.queueReply p = { s with ret := { s.ret with
        onLink := some ⟨s.ret.sequence, .reply p⟩, sequence := s.ret.sequence + 1, fullRestartHold := false } })) ∧
    (∀ (k : NoticeKind) (x : Option ThreadId) (g : Option Tag) (n : Option LaneId) (c : Option (BitVec 16)),
      let notice : Notice := ⟨k, x, g, n, c, s.aging.periodNo, s.ret.lostNotices⟩
      let enabled := s.ret.noticeMask.getLsbD k.code = true
      (¬ enabled → s.raise k x g n c = s) ∧
      (enabled → 16 ≤ s.ret.notices.length →
        s.raise k x g n c = { s with ret := { s.ret with
          lostNotices := min (s.ret.lostNotices + 1) 65535 } }.bumpDevice .noticesLost) ∧
      (enabled → s.ret.notices.length < 16 → waits →
        s.raise k x g n c = { s with ret := { s.ret with
          notices := s.ret.notices ++ [notice], lostNotices := 0 } }) ∧
      (enabled → idle → s.raise k x g n c = { s with ret := { s.ret with
        lostNotices := 0, onLink := some ⟨s.ret.sequence, .notice notice⟩, sequence := s.ret.sequence + 1 } })) ∧
    (waits → s.handOffCongestion =
      { s.bumpDevice .congestionChanges with ret := { s.ret with congestionPending := true } })

/-! ## The Management Engine -/

/-- The arrival of a request is judged by the queues: with fewer than 8 requests waiting it joins the tail, and is carried
out at once where the engine can take it; with 8 waiting it is refused with QUEUE_FULL while a place of the reply queue is
not occupied, and otherwise lost and counted. Serving ends with no request left that could be taken (08 R121, R122). That a
request row is such an arrival, with 0x00 past its operands, is the model's reading (log entries 3 and 19). -/
def Obligations.ArrivalIsJudgedByTheQueues : Prop :=
  (∀ (i : Instr) (s : State) (payload : List Byte), requestPayload i = some payload → s.mode ≠ .starting →
    let r : Request := ⟨payload.getD 0 0 ++ payload.getD 1 0, payload.getD 2 0, payload.drop 3⟩
    let occupied := s.ret.replies.length + if s.engine.reserved = true then 1 else 0
    let joined := { s with engine := { s.engine with queue := s.engine.queue ++ [r] } }
    let refused := s.queueReply ⟨r.number, r.code, .queueFull, .empty⟩
    (s.engine.queue.length < 8 → s.engine.inProgress.isSome = true ∨ 8 ≤ occupied → exec i s = .next joined) ∧
    (s.engine.queue = [] → s.engine.inProgress = none → occupied < 8 →
      exec i s = .next ({ s with engine := { s.engine with reserved := true } }.carryOut r)) ∧
    (8 ≤ s.engine.queue.length → occupied < 8 → s.ret.onLink.isSome = true → exec i s = .next refused) ∧
    (8 ≤ s.engine.queue.length → occupied < 8 → s.ret.onLink = none → exec i s = .next refused.serve) ∧
    (8 ≤ s.engine.queue.length → 8 ≤ occupied → exec i s = .next (s.bumpDevice .mgmtLost))) ∧
  ∀ s : State, s.serve.canTake = false

/-- READ_SETTING replies DONE with the setting as it stands, and changes nothing else; an index outside 0 to 19 gets
UNKNOWN. A STATUS read shows the engine READY and the requests left waiting behind it (08 R125, 04 R81). -/
def Obligations.ReadSettingAnswersTheSetting : Prop :=
  (∀ (s : State) (num : BitVec 16) (index : Byte), s.ready →
    let i := index.toNat
    let answered := fun c : ReplyResult => exec (.readSetting num index) s = .next (s.queueReply ⟨num, 0x01, .done, c⟩)
    (i = 0 → answered (.ident 0x3208 0x01)) ∧
    (i = 1 → answered (.deviceStatus s.mode s.aging.periodNo s.aging.cursor.isSome false 0)) ∧
    (i = 2 → answered (.value (BitVec.ofNat 16 s.controller.val))) ∧
    (i = 3 → answered (.value (BitVec.ofNat 16 s.aging.period))) ∧
    (i = 4 → answered (.value (BitVec.ofNat 16 s.engine.drainLimit))) ∧
    (∀ c : ClassId, i = 5 + c.val → answered (.value (BitVec.ofNat 16 (s.cls c).quota))) ∧
    (∀ c : ClassId, i = 9 + c.val → answered (.value (BitVec.ofNat 16 (s.cls c).warn))) ∧
    (i = 13 → answered (.value (BitVec.ofNat 16 s.store.hysteresis))) ∧
    (i = 14 → answered (.value s.ret.noticeMask)) ∧
    (∀ n : LaneId, i = 15 + n.val → answered (.value (BitVec.ofNat 16 (s.lane n).stallLimit))) ∧
    (i = 19 → answered (.occupancy s.store.freeList.length
      [(s.cls 0).usage, (s.cls 1).usage, (s.cls 2).usage, (s.cls 3).usage]
      (s.slotCount .free) (s.slotCount .assembling) (s.slotCount .skipping) (s.slotCount .resting))) ∧
    (20 ≤ i → exec (.readSetting num index) s = .next (s.queueReply ⟨num, 0x01, .unknown, .empty⟩))) ∧
  ∀ (s : State) (r : Request), r.code = 0x01 → r.octet 3 = 1 → s.engine.inProgress = none →
    s.carryOut r = { s with engine := { s.engine with reserved := false } }.queueReply ⟨r.number, 0x01, .done,
      .deviceStatus s.mode s.aging.periodNo s.aging.cursor.isSome false s.engine.queue.length⟩

/-- READ_THREAD and READ_SLOT reply DONE with a snapshot and change nothing else, not even a stamp; a thread outside 0 to
1023 or a slot outside 0 to 95 gets RANGE (03 R62, 08 R127). -/
def Obligations.ReadThreadAndSlotAnswerSnapshots : Prop :=
  ∀ (s : State) (num : BitVec 16), s.ready →
    (∀ x : ThreadId,
      let slotState := match (s.thread x).binding with
        | none => SlotState.free
        | some k => (s.slot k).state
      exec (.readThread num (BitVec.ofNat 16 x.val)) s = .next (s.queueReply ⟨num, 0x03, .done,
        .thread (s.thread x).active (s.thread x).pending (s.thread x).binding slotState⟩)) ∧
    (∀ v : BitVec 16, 1024 ≤ v.toNat →
      exec (.readThread num v) s = .next (s.queueReply ⟨num, 0x03, .range, .empty⟩)) ∧
    (∀ k : SlotId,
      let answered := fun v : SlotView => exec (.readSlot num (BitVec.ofNat 8 k.val)) s =
        .next (s.queueReply ⟨num, 0x05, .done, .slot v⟩)
      (s.slot k = .free → answered ⟨.free, none, none, none, none, 0, [], none, none, none, none⟩) ∧
      (∀ x p a, s.slot k = .assembling x p a → answered ⟨.assembling, some x, some a.expected, some a.parcelStart,
        a.parcelTag, a.placed.length, a.early.map EarlyEntry.seq, a.lastHeld, some p, none, none⟩) ∧
      (∀ x p g r, s.slot k = .skipping x p g r →
        answered ⟨.skipping, some x, none, none, none, 0, [], none, some p, g, some r⟩) ∧
      (∀ x p e, s.slot k = .resting x p e →
        answered ⟨.resting, some x, some e, none, none, 0, [], none, some p, none, none⟩)) ∧
    ∀ b : Byte, 96 ≤ b.toNat → exec (.readSlot num b) s = .next (s.queueReply ⟨num, 0x05, .range, .empty⟩)

/-- WRITE_SETTING outside the Parcel Store, taken at once by a ready engine: each value in its setting's range becomes the
setting, nothing else changes, and the reply carries it; a value out of range gets RANGE, a read-only index READ_ONLY and
an index outside 0 to 19 UNKNOWN, and nothing changes (05 R89, 06 R99, 07 R114, 08 R126). -/
def Obligations.SettingWritesAnswerByRange : Prop :=
  ∀ (s : State) (num v : BitVec 16), s.ready →
    let written := fun t : State => Host.Outcome.next (t.queueReply ⟨num, 0x02, .done, .value v⟩)
    let declined := fun st : Status => Host.Outcome.next (s.queueReply ⟨num, 0x02, st, .empty⟩)
    (v.toNat ≤ 63 → exec (.writeController num v) s = written { s with controller := Fin.ofNat 64 v.toNat }) ∧
    (63 < v.toNat → exec (.writeController num v) s = declined .range) ∧
    (v ≠ 0 → exec (.writePeriod num v) s = written { s with aging := { s.aging with period := v.toNat } }) ∧
    (v = 0 → exec (.writePeriod num v) s = declined .range) ∧
    (∀ n : LaneId, exec (.writeStall num n v) s = written (s.setLane n { s.lane n with stallLimit := v.toNat })) ∧
    (v ≠ 0 → exec (.writeSetting num 4 v) s = written { s with engine := { s.engine with drainLimit := v.toNat } }) ∧
    (v = 0 → exec (.writeSetting num 4 v) s = declined .range) ∧
    (v.getLsbD 15 = false → exec (.writeSetting num 14 v) s = written { s with ret := { s.ret with noticeMask := v } }) ∧
    (v.getLsbD 15 = true → exec (.writeSetting num 14 v) s = declined .range) ∧
    exec (.writeSetting num 0 v) s = declined .readOnly ∧ exec (.writeSetting num 1 v) s = declined .readOnly ∧
    exec (.writeSetting num 19 v) s = declined .readOnly ∧
    ∀ index : Byte, 20 ≤ index.toNat → exec (.writeSetting num index v) s = declined .unknown

/-- WRITE_SETTING of QUOTA, WARN and HYSTERESIS, taken at once by a ready engine: a quota not below the warn level, a warn
level not above the quota, a hysteresis of at most 1024; the write of a warn level re-judges its class, the write of the
hysteresis all four in order; any other value gets RANGE and changes nothing (04 R75 to R78). -/
def Obligations.StoreSettingWritesAnswerByRange : Prop :=
  ∀ (s : State) (num v : BitVec 16), s.ready →
    let written := fun t : State => Host.Outcome.next (t.queueReply ⟨num, 0x02, .done, .value v⟩)
    let declined := Host.Outcome.next (s.queueReply ⟨num, 0x02, .range, .empty⟩)
    (∀ c : ClassId,
      (v.toNat ≤ 8192 → (s.cls c).warn ≤ v.toNat →
        exec (.writeQuota num c v) s = written (s.setCls c { s.cls c with quota := v.toNat })) ∧
      (8192 < v.toNat ∨ v.toNat < (s.cls c).warn → exec (.writeQuota num c v) s = declined) ∧
      (v.toNat ≤ 8192 → v.toNat ≤ (s.cls c).quota →
        exec (.writeWarn num c v) s = written ((s.setCls c { s.cls c with warn := v.toNat }).rejudge c)) ∧
      (8192 < v.toNat ∨ (s.cls c).quota < v.toNat → exec (.writeWarn num c v) s = declined)) ∧
    (v.toNat ≤ 1024 → exec (.writeHysteresis num v) s =
      written ((((({ s with store := { s.store with hysteresis := v.toNat } }).rejudge 0).rejudge 1).rejudge 2).rejudge
        3)) ∧
    (1024 < v.toNat → exec (.writeHysteresis num v) s = declined)

/-- WRITE_THREAD, taken at once by a ready engine: with every operand in range it becomes the active configuration of an
unbound or RESTING thread, whose slot is released where the write clears enabled or retain, and the pending configuration
of a thread with a parcel in progress (STORED, or REPLACED where one was pending); with any operand out of range it gets
RANGE and changes nothing (03 R53 to R55, R63). -/
def Obligations.WriteThreadIsAppliedOrStored : Prop :=
  ∀ (s : State) (num : BitVec 16) (x : ThreadId) (v : BitVec 16) (e c l m w o r y : Byte), s.ready →
    let inRange := v.toNat < 1024 ∧ e.toNat ≤ 1 ∧ c.toNat ≤ 3 ∧ l.toNat ≤ 3 ∧ 1 ≤ m.toNat ∧ m.toNat ≤ 160 ∧
      w.toNat ≤ 15 ∧ 1 ≤ o.toNat ∧ r.toNat ≤ 1 ∧ y.toNat ≤ 1
    let cfg : ThreadConfig := ⟨e == 1, Fin.ofNat 4 c.toNat, Fin.ofNat 4 l.toNat, m.toNat, w.toNat, o.toNat, r == 1, y == 1⟩
    let wrote := exec (.writeThread num v e c l m w o r y) s
    let answered := fun (t : State) (st : Status) => Host.Outcome.next (t.queueReply ⟨num, 0x04, st, .empty⟩)
    let applied := s.setThread x { s.thread x with active := cfg }
    let stored := wrote = answered (s.setThread x { s.thread x with pending := some cfg })
      (if (s.thread x).pending = none then .stored else .replaced)
    (¬ inRange → wrote = answered s .range) ∧
    (inRange → v.toNat = x.val →
      ((s.thread x).binding = none → wrote = answered applied .done) ∧
      ∀ k, (s.thread x).binding = some k →
        (∀ t₀ p q, s.slot k = .resting t₀ p q → e = 1 → r = 1 → wrote = answered applied .done) ∧
        (∀ t₀ p q, s.slot k = .resting t₀ p q → e ≠ 1 ∨ r ≠ 1 → wrote = answered
          ((s.setThread x { s.thread x with active := cfg, binding := none }).setSlot k .free) .done) ∧
        (∀ t₀ p a, s.slot k = .assembling t₀ p a → stored) ∧
        (∀ t₀ p g z, s.slot k = .skipping t₀ p g z → stored))

/-- CUT, taken at once by a ready engine on the thread named or on the sixteen threads of the source named. SKIP poisons
each ASSEMBLING slot of theirs with CUT, its stamp kept, and leaves every other slot. RELEASE frees every slot of theirs:
a parcel in progress is counted as CUT, its pending configuration applied and its slot reported; a RESTING slot is only
released. Units go back in increasing order of thread number. The status is DONE where a parcel was cut and NOTHING where
none was, and the result counts them; a target or id out of range gets RANGE (08 R128 to R130). -/
def Obligations.CutActsOnTheTargetThreads : Prop :=
  ∀ (s : State) (num id : BitVec 16) (target : Byte), s.ready →
    let inRange := target = 0 ∧ id.toNat < 1024 ∨ target = 1 ∧ id.toNat < 64
    let hit := fun x : ThreadId => if target = 0 then x.val == id.toNat else x.val / 16 == id.toNat
    let unitsOf := fun x : ThreadId => match (s.thread x).binding with
      | none => []
      | some k => (s.slot k).units
    let returned := ((List.finRange 1024).filter hit).flatMap unitsOf
    let among := fun p : Slot → Bool => s.slots.toList.countP (fun sl => p sl && sl.thread.any hit)
    let status := fun cut : Nat => if cut = 0 then Status.nothing else Status.done
    (¬ inRange → exec (.cutSkip num target id) s = .next (s.queueReply ⟨num, 0x06, .range, .empty⟩) ∧
      exec (.cutRelease num target id) s = .next (s.queueReply ⟨num, 0x06, .range, .empty⟩)) ∧
    (inRange → s.settled → s.bindingLaw →
      (let cut := among (fun sl => sl.state == .assembling)
       ∃ t : State, exec (.cutSkip num target id) s = .next (t.queueReply ⟨num, 0x06, status cut, .cut cut 0⟩) ∧
        (∀ k x p a, s.slot k = .assembling x p a → hit x = true → t.slot k = .skipping x p a.parcelTag .cut) ∧
        (∀ k, (s.slot k).state ≠ .assembling ∨ (s.slot k).thread.any hit = false → t.slot k = s.slot k) ∧
        t.parcels .cut = s.parcels .cut + BitVec.ofNat 32 cut ∧ t.store.freeList = s.store.freeList ++ returned ∧
        t.threads = s.threads ∧ t.lanes = s.lanes ∧ t.slotReports = s.slotReports ∧ t.mode = s.mode ∧
        t.store.octets = s.store.octets ∧ t.aging = s.aging ∧ t.engine = s.engine) ∧
      (let cut := among Slot.busy
       ∃ t : State, exec (.cutRelease num target id) s = .next (t.queueReply ⟨num, 0x06, status cut,
           .cut cut (among (fun _ => true))⟩) ∧
        (∀ k x, (s.slot k).thread = some x → hit x = true → t.slot k = .free ∧ t.thread x =
          if (s.slot k).busy = true then
            { active := (s.thread x).pending.getD (s.thread x).active, pending := none, binding := none }
          else { s.thread x with binding := none }) ∧
        (∀ k, (s.slot k).thread.any hit = false → t.slot k = s.slot k) ∧
        (∀ x, hit x = false ∨ (s.thread x).binding = none → t.thread x = s.thread x) ∧
        t.parcels .cut = s.parcels .cut + BitVec.ofNat 32 cut ∧ t.store.freeList = s.store.freeList ++ returned ∧
        t.slotReports = s.slotReports + cut ∧ t.lanes = s.lanes ∧ t.mode = s.mode ∧
        t.store.octets = s.store.octets ∧ t.aging = s.aging ∧ t.engine = s.engine))

/-- OPEN makes the mode RUN from every mode after STARTING and replies DONE with it; a request whose code names none of the
eleven requests gets UNKNOWN and changes nothing (08 R123, R132). -/
def Obligations.OpenRunsAndUnknownCodesAreAnswered : Prop :=
  ∀ (s : State) (num : BitVec 16), s.ready →
    exec (.openDevice num) s = .next ({ s with mode := .run }.queueReply ⟨num, 0x08, .done, .mode .run⟩) ∧
    ∀ code : Byte, code = 0 ∨ 12 ≤ code.toNat →
      exec (.unknownRequest num code) s = .next (s.queueReply ⟨num, code, .unknown, .empty⟩)

/-- READ_COUNTERS replies DONE with the counters of a group as they stood, the named lane's five for group 2, and sets
exactly those to 0 where the clear flag is nonzero; a group or, for group 2, a lane outside 0 to 3 gets RANGE (08 R137). -/
def Obligations.ReadCountersAnswersAndClears : Prop :=
  ∀ (s : State) (num : BitVec 16) (group lane clear : Byte), s.ready →
    let answered := fun (cleared : Counters) (values : List (BitVec 32)) =>
      exec (.readCounters num group lane clear) s =
        .next ({ s with counters := if clear = 0 then s.counters else cleared }.queueReply
          ⟨num, 0x0A, .done, .counters values⟩)
    let declined := exec (.readCounters num group lane clear) s = .next (s.queueReply ⟨num, 0x0A, .range, .empty⟩)
    (group = 0 → answered { s.counters with drops := Vector.replicate 12 0 }
      [s.drops .header, s.drops .kind, s.drops .foreign, s.drops .notRunning, s.drops .disabled, s.drops .orphan,
       s.drops .behind, s.drops .duplicate, s.drops .skipped, s.drops .noSlot, s.drops .displaced,
       s.drops .evictions]) ∧
    (group = 1 → answered { s.counters with parcels := Vector.replicate 11 0 }
      [s.parcels .sealed, s.parcels .window, s.parcels .overlong, s.parcels .framing, s.parcels .tag, s.parcels .check,
       s.parcels .store, s.parcels .quota, s.parcels .laneFull, s.parcels .reaped, s.parcels .cut]) ∧
    (∀ n : LaneId, group = 2 → lane.toNat = n.val →
      answered { s.counters with lanes := s.counters.lanes.set n.val (Vector.replicate 5 0) }
        [s.laneCounter n .emitted, s.laneCounter n .stalled, s.laneCounter n .flushed, s.laneCounter n .aborted,
         s.laneCounter n .grantOverflow]) ∧
    (group = 3 → answered { s.counters with device := Vector.replicate 4 0 }
      [s.device .agingOverrun, s.device .noticesLost, s.device .mgmtLost, s.device .congestionChanges]) ∧
    (4 ≤ group.toNat → declined) ∧ (group = 2 → 4 ≤ lane.toNat → declined)

/-! ## Restarts -/

/-- RESTART TRAFFIC, taken at once by a ready engine: every lane emptied with credit 0, started or stopped as it was, a
frame in flight cut and counted as ABORTED; aging begun again at period number 0; every slot FREE, its reports made, every
pending configuration applied and every binding cleared; the store rebuilt with every class CLEAR;
the notice queue emptied; the mode INIT. Active configurations, settings, octets, every counter but ABORTED and
CONGESTION_CHANGES and, while a shard is on the link, the replies and the return sequence are kept. The reply is DONE
(09 R146, R147, 03 R59, 04 R80, 05 R90, 06 R106, 10 R162). How much of a cut frame was sent is a free value (log entry 9),
and the lane's record of its last frame is the model's own (log entry 11). -/
def Obligations.RestartTrafficClearsTheTraffic : Prop :=
  ∀ (s : State) (num : BitVec 16), s.ready →
    ∃ t : State, exec (.restartTraffic num) s = .next (t.queueReply ⟨num, 0x0B, .done, .empty⟩) ∧ t.mode = .init ∧
      (∀ n : LaneId,
        (t.lane n).queue = [] ∧ (t.lane n).emission = none ∧ (t.lane n).credit = 0 ∧ (t.lane n).stallTimer = none ∧
        (t.lane n).stallLimit = (s.lane n).stallLimit ∧
        ((s.lane n).state = .stopped ∨ (s.lane n).state = .stopping → (t.lane n).state = .stopped) ∧
        ((s.lane n).state ≠ .stopped ∧ (s.lane n).state ≠ .stopping → (t.lane n).state = .idle) ∧
        ((s.lane n).emission = none → t.laneCounter n .aborted = s.laneCounter n .aborted ∧
          (t.lane n).lastFrame = (s.lane n).lastFrame) ∧
        (∀ d, (s.lane n).emission = some d → t.laneCounter n .aborted = s.laneCounter n .aborted + 1 ∧
          ∃ sent, sent <+: s.frameOctets d ∧ (t.lane n).lastFrame = .aborted sent) ∧
        ∀ c, c ≠ .aborted → t.laneCounter n c = s.laneCounter n c) ∧
      t.aging = { s.aging with
        timer := some s.aging.period, periodNo := 0, cursor := none, expiryPending := false } ∧
      (∀ k, t.slot k = .free) ∧ t.slotReports = s.slotReports + s.busySlots ∧
      (∀ x, t.thread x =
        { active := (s.thread x).pending.getD (s.thread x).active, pending := none, binding := none }) ∧
      t.store.octets = s.store.octets ∧ t.store.freeList = List.finRange 8192 ∧
      (∀ u : UnitNo, t.store.unitClass[u.val] = none) ∧ t.store.hysteresis = s.store.hysteresis ∧
      (∀ c, t.cls c = { s.cls c with usage := 0, congested := false, fallOwed := false }) ∧
      t.device .congestionChanges = s.device .congestionChanges +
        BitVec.ofNat 32 (classIds.countP (fun c => (s.cls c).congested)) ∧
      (∀ c, c ≠ .congestionChanges → t.device c = s.device c) ∧
      t.ret.notices = [] ∧ t.ret.lostNotices = 0 ∧ t.ret.noticeMask = s.ret.noticeMask ∧
      (s.ret.onLink.isSome = true → t.ret.replies = s.ret.replies ∧ t.ret.sequence = s.ret.sequence ∧
        t.ret.onLink = s.ret.onLink ∧
        (t.ret.congestionPending = true ↔ s.ret.congestionPending = true ∨ ∃ c, (s.cls c).congested = true)) ∧
      t.controller = s.controller ∧ t.engine = s.engine ∧ (∀ c, t.drops c = s.drops c) ∧
      (∀ c, t.parcels c = s.parcels c) ∧ t.orphanTally = s.orphanTally

/-- RESTART FULL, taken at once by a ready engine: as RESTART TRAFFIC, but every thread entry and every writable setting
takes its default, every counter and the orphan tally are 0, the reply queue is emptied, and the full-restart hold stands
before its DONE reply, which carries return sequence 0 and is the only reply; a congestion status pending stays pending
behind it (09 R148, 03 R50, 04 R80, 05 R90, 06 R106, 08 R138, 10 R153, R158, R161, R162, 11 11.6). -/
def Obligations.RestartFullRestoresDefaults : Prop :=
  ∀ (s : State) (num : BitVec 16), s.ready → s.returnLaw →
    ∃ t : State, exec (.restartFull num) s = .next (t.queueReply ⟨num, 0x0B, .done, .empty⟩) ∧ t.mode = .init ∧
      (∀ n : LaneId,
        (t.lane n).queue = [] ∧ (t.lane n).emission = none ∧ (t.lane n).credit = 0 ∧ (t.lane n).stallTimer = none ∧
        (t.lane n).stallLimit = 100 ∧
        ((s.lane n).state = .stopped ∨ (s.lane n).state = .stopping → (t.lane n).state = .stopped) ∧
        ((s.lane n).state ≠ .stopped ∧ (s.lane n).state ≠ .stopping → (t.lane n).state = .idle) ∧
        ∀ c, t.laneCounter n c = 0) ∧
      t.aging = { timer := some 1000, periodNo := 0, cursor := none, expiryPending := false, period := 1000 } ∧
      (∀ k, t.slot k = .free) ∧ (∀ x, t.thread x = ⟨⟨false, 0, 0, 160, 0, 10, false, true⟩, none, none⟩) ∧
      t.slotReports = s.slotReports + s.busySlots ∧
      t.store.octets = s.store.octets ∧ t.store.freeList = List.finRange 8192 ∧
      (∀ u : UnitNo, t.store.unitClass[u.val] = none) ∧ t.store.hysteresis = 256 ∧
      (∀ c, t.cls c = { usage := 0, quota := 2048, warn := 1536, congested := false, fallOwed := false }) ∧
      t.controller = 0 ∧ t.engine = { s.engine with drainLimit := 500 } ∧
      (∀ c, t.drops c = 0) ∧ (∀ c, t.parcels c = 0) ∧ (∀ c, t.device c = 0) ∧ t.orphanTally = 0 ∧
      t.ret.notices = [] ∧ t.ret.lostNotices = 0 ∧ t.ret.replies = [] ∧ t.ret.sequence = 0 ∧
      t.ret.fullRestartHold = true ∧ t.ret.noticeMask = 0x7FFF ∧ t.ret.onLink = s.ret.onLink ∧
      (t.ret.congestionPending = true ↔ s.ret.congestionPending = true ∨ ∃ c, (s.cls c).congested = true) ∧
      (s.ret.onLink = none → (t.queueReply ⟨num, 0x0B, .done, .empty⟩).ret.onLink =
        some ⟨0, .reply ⟨num, 0x0B, .done, .empty⟩⟩)

end WeftbayStatements
end

