-- ==== Sys2Proof/Laws/State.lean ====
section
/-! SUPPORT. One lemma per field per update of the state, so that no proof unfolds a record update, and the read-after-write laws of its tables. -/

namespace Sys2Proof.Machine

/-! ## `setSlot` -/

@[simp] theorem State.setSlot_pending (s : State) (k : SlotId) (v : Slot) : (s.setSlot k v).pending = s.pending := rfl
@[simp] theorem State.setSlot_resetn (s : State) (k : SlotId) (v : Slot) : (s.setSlot k v).resetn = s.resetn := rfl
@[simp] theorem State.setSlot_building (s : State) (k : SlotId) (v : Slot) : (s.setSlot k v).building = s.building := rfl
@[simp] theorem State.setSlot_mode (s : State) (k : SlotId) (v : Slot) : (s.setSlot k v).mode = s.mode := rfl
@[simp] theorem State.setSlot_slotReports (s : State) (k : SlotId) (v : Slot) : (s.setSlot k v).slotReports = s.slotReports := rfl
@[simp] theorem State.setSlot_controller (s : State) (k : SlotId) (v : Slot) : (s.setSlot k v).controller = s.controller := rfl
@[simp] theorem State.setSlot_threads (s : State) (k : SlotId) (v : Slot) : (s.setSlot k v).threads = s.threads := rfl
@[simp] theorem State.setSlot_store (s : State) (k : SlotId) (v : Slot) : (s.setSlot k v).store = s.store := rfl
@[simp] theorem State.setSlot_aging (s : State) (k : SlotId) (v : Slot) : (s.setSlot k v).aging = s.aging := rfl
@[simp] theorem State.setSlot_lanes (s : State) (k : SlotId) (v : Slot) : (s.setSlot k v).lanes = s.lanes := rfl
@[simp] theorem State.setSlot_engine (s : State) (k : SlotId) (v : Slot) : (s.setSlot k v).engine = s.engine := rfl
@[simp] theorem State.setSlot_ret (s : State) (k : SlotId) (v : Slot) : (s.setSlot k v).ret = s.ret := rfl
@[simp] theorem State.setSlot_counters (s : State) (k : SlotId) (v : Slot) : (s.setSlot k v).counters = s.counters := rfl
@[simp] theorem State.setSlot_orphanTally (s : State) (k : SlotId) (v : Slot) : (s.setSlot k v).orphanTally = s.orphanTally := rfl
@[simp] theorem State.setSlot_freeIndex (s : State) (k : SlotId) (v : Slot) : (s.setSlot k v).freeIndex = s.freeIndex := rfl

/-! ## `setThread` -/

@[simp] theorem State.setThread_pending (s : State) (t : ThreadId) (v : ThreadEntry) : (s.setThread t v).pending = s.pending := rfl
@[simp] theorem State.setThread_resetn (s : State) (t : ThreadId) (v : ThreadEntry) : (s.setThread t v).resetn = s.resetn := rfl
@[simp] theorem State.setThread_building (s : State) (t : ThreadId) (v : ThreadEntry) : (s.setThread t v).building = s.building := rfl
@[simp] theorem State.setThread_mode (s : State) (t : ThreadId) (v : ThreadEntry) : (s.setThread t v).mode = s.mode := rfl
@[simp] theorem State.setThread_slotReports (s : State) (t : ThreadId) (v : ThreadEntry) : (s.setThread t v).slotReports = s.slotReports := rfl
@[simp] theorem State.setThread_controller (s : State) (t : ThreadId) (v : ThreadEntry) : (s.setThread t v).controller = s.controller := rfl
@[simp] theorem State.setThread_slots (s : State) (t : ThreadId) (v : ThreadEntry) : (s.setThread t v).slots = s.slots := rfl
@[simp] theorem State.setThread_store (s : State) (t : ThreadId) (v : ThreadEntry) : (s.setThread t v).store = s.store := rfl
@[simp] theorem State.setThread_aging (s : State) (t : ThreadId) (v : ThreadEntry) : (s.setThread t v).aging = s.aging := rfl
@[simp] theorem State.setThread_lanes (s : State) (t : ThreadId) (v : ThreadEntry) : (s.setThread t v).lanes = s.lanes := rfl
@[simp] theorem State.setThread_engine (s : State) (t : ThreadId) (v : ThreadEntry) : (s.setThread t v).engine = s.engine := rfl
@[simp] theorem State.setThread_ret (s : State) (t : ThreadId) (v : ThreadEntry) : (s.setThread t v).ret = s.ret := rfl
@[simp] theorem State.setThread_counters (s : State) (t : ThreadId) (v : ThreadEntry) : (s.setThread t v).counters = s.counters := rfl
@[simp] theorem State.setThread_orphanTally (s : State) (t : ThreadId) (v : ThreadEntry) : (s.setThread t v).orphanTally = s.orphanTally := rfl
@[simp] theorem State.setThread_freeIndex (s : State) (t : ThreadId) (v : ThreadEntry) : (s.setThread t v).freeIndex = s.freeIndex := rfl

/-! ## `setBinding` -/

@[simp] theorem State.setBinding_pending (s : State) (t : ThreadId) (b : Option SlotId) : (s.setBinding t b).pending = s.pending := rfl
@[simp] theorem State.setBinding_resetn (s : State) (t : ThreadId) (b : Option SlotId) : (s.setBinding t b).resetn = s.resetn := rfl
@[simp] theorem State.setBinding_building (s : State) (t : ThreadId) (b : Option SlotId) : (s.setBinding t b).building = s.building := rfl
@[simp] theorem State.setBinding_mode (s : State) (t : ThreadId) (b : Option SlotId) : (s.setBinding t b).mode = s.mode := rfl
@[simp] theorem State.setBinding_slotReports (s : State) (t : ThreadId) (b : Option SlotId) : (s.setBinding t b).slotReports = s.slotReports := rfl
@[simp] theorem State.setBinding_controller (s : State) (t : ThreadId) (b : Option SlotId) : (s.setBinding t b).controller = s.controller := rfl
@[simp] theorem State.setBinding_slots (s : State) (t : ThreadId) (b : Option SlotId) : (s.setBinding t b).slots = s.slots := rfl
@[simp] theorem State.setBinding_store (s : State) (t : ThreadId) (b : Option SlotId) : (s.setBinding t b).store = s.store := rfl
@[simp] theorem State.setBinding_aging (s : State) (t : ThreadId) (b : Option SlotId) : (s.setBinding t b).aging = s.aging := rfl
@[simp] theorem State.setBinding_lanes (s : State) (t : ThreadId) (b : Option SlotId) : (s.setBinding t b).lanes = s.lanes := rfl
@[simp] theorem State.setBinding_engine (s : State) (t : ThreadId) (b : Option SlotId) : (s.setBinding t b).engine = s.engine := rfl
@[simp] theorem State.setBinding_ret (s : State) (t : ThreadId) (b : Option SlotId) : (s.setBinding t b).ret = s.ret := rfl
@[simp] theorem State.setBinding_counters (s : State) (t : ThreadId) (b : Option SlotId) : (s.setBinding t b).counters = s.counters := rfl
@[simp] theorem State.setBinding_orphanTally (s : State) (t : ThreadId) (b : Option SlotId) : (s.setBinding t b).orphanTally = s.orphanTally := rfl
@[simp] theorem State.setBinding_freeIndex (s : State) (t : ThreadId) (b : Option SlotId) : (s.setBinding t b).freeIndex = s.freeIndex := rfl

/-! ## `setCls` -/

@[simp] theorem State.setCls_pending (s : State) (c : ClassId) (v : ClassAccount) : (s.setCls c v).pending = s.pending := rfl
@[simp] theorem State.setCls_resetn (s : State) (c : ClassId) (v : ClassAccount) : (s.setCls c v).resetn = s.resetn := rfl
@[simp] theorem State.setCls_building (s : State) (c : ClassId) (v : ClassAccount) : (s.setCls c v).building = s.building := rfl
@[simp] theorem State.setCls_mode (s : State) (c : ClassId) (v : ClassAccount) : (s.setCls c v).mode = s.mode := rfl
@[simp] theorem State.setCls_slotReports (s : State) (c : ClassId) (v : ClassAccount) : (s.setCls c v).slotReports = s.slotReports := rfl
@[simp] theorem State.setCls_controller (s : State) (c : ClassId) (v : ClassAccount) : (s.setCls c v).controller = s.controller := rfl
@[simp] theorem State.setCls_threads (s : State) (c : ClassId) (v : ClassAccount) : (s.setCls c v).threads = s.threads := rfl
@[simp] theorem State.setCls_slots (s : State) (c : ClassId) (v : ClassAccount) : (s.setCls c v).slots = s.slots := rfl
@[simp] theorem State.setCls_aging (s : State) (c : ClassId) (v : ClassAccount) : (s.setCls c v).aging = s.aging := rfl
@[simp] theorem State.setCls_lanes (s : State) (c : ClassId) (v : ClassAccount) : (s.setCls c v).lanes = s.lanes := rfl
@[simp] theorem State.setCls_engine (s : State) (c : ClassId) (v : ClassAccount) : (s.setCls c v).engine = s.engine := rfl
@[simp] theorem State.setCls_ret (s : State) (c : ClassId) (v : ClassAccount) : (s.setCls c v).ret = s.ret := rfl
@[simp] theorem State.setCls_counters (s : State) (c : ClassId) (v : ClassAccount) : (s.setCls c v).counters = s.counters := rfl
@[simp] theorem State.setCls_orphanTally (s : State) (c : ClassId) (v : ClassAccount) : (s.setCls c v).orphanTally = s.orphanTally := rfl
@[simp] theorem State.setCls_freeIndex (s : State) (c : ClassId) (v : ClassAccount) : (s.setCls c v).freeIndex = s.freeIndex := rfl

/-! ## `setLane` -/

@[simp] theorem State.setLane_pending (s : State) (n : LaneId) (v : Lane) : (s.setLane n v).pending = s.pending := rfl
@[simp] theorem State.setLane_resetn (s : State) (n : LaneId) (v : Lane) : (s.setLane n v).resetn = s.resetn := rfl
@[simp] theorem State.setLane_building (s : State) (n : LaneId) (v : Lane) : (s.setLane n v).building = s.building := rfl
@[simp] theorem State.setLane_mode (s : State) (n : LaneId) (v : Lane) : (s.setLane n v).mode = s.mode := rfl
@[simp] theorem State.setLane_slotReports (s : State) (n : LaneId) (v : Lane) : (s.setLane n v).slotReports = s.slotReports := rfl
@[simp] theorem State.setLane_controller (s : State) (n : LaneId) (v : Lane) : (s.setLane n v).controller = s.controller := rfl
@[simp] theorem State.setLane_threads (s : State) (n : LaneId) (v : Lane) : (s.setLane n v).threads = s.threads := rfl
@[simp] theorem State.setLane_slots (s : State) (n : LaneId) (v : Lane) : (s.setLane n v).slots = s.slots := rfl
@[simp] theorem State.setLane_store (s : State) (n : LaneId) (v : Lane) : (s.setLane n v).store = s.store := rfl
@[simp] theorem State.setLane_aging (s : State) (n : LaneId) (v : Lane) : (s.setLane n v).aging = s.aging := rfl
@[simp] theorem State.setLane_engine (s : State) (n : LaneId) (v : Lane) : (s.setLane n v).engine = s.engine := rfl
@[simp] theorem State.setLane_ret (s : State) (n : LaneId) (v : Lane) : (s.setLane n v).ret = s.ret := rfl
@[simp] theorem State.setLane_counters (s : State) (n : LaneId) (v : Lane) : (s.setLane n v).counters = s.counters := rfl
@[simp] theorem State.setLane_orphanTally (s : State) (n : LaneId) (v : Lane) : (s.setLane n v).orphanTally = s.orphanTally := rfl
@[simp] theorem State.setLane_freeIndex (s : State) (n : LaneId) (v : Lane) : (s.setLane n v).freeIndex = s.freeIndex := rfl

/-! ## `bumpDrop` -/

@[simp] theorem State.bumpDrop_pending (s : State) (c : DropCounter) : (s.bumpDrop c).pending = s.pending := rfl
@[simp] theorem State.bumpDrop_resetn (s : State) (c : DropCounter) : (s.bumpDrop c).resetn = s.resetn := rfl
@[simp] theorem State.bumpDrop_building (s : State) (c : DropCounter) : (s.bumpDrop c).building = s.building := rfl
@[simp] theorem State.bumpDrop_mode (s : State) (c : DropCounter) : (s.bumpDrop c).mode = s.mode := rfl
@[simp] theorem State.bumpDrop_slotReports (s : State) (c : DropCounter) : (s.bumpDrop c).slotReports = s.slotReports := rfl
@[simp] theorem State.bumpDrop_controller (s : State) (c : DropCounter) : (s.bumpDrop c).controller = s.controller := rfl
@[simp] theorem State.bumpDrop_threads (s : State) (c : DropCounter) : (s.bumpDrop c).threads = s.threads := rfl
@[simp] theorem State.bumpDrop_slots (s : State) (c : DropCounter) : (s.bumpDrop c).slots = s.slots := rfl
@[simp] theorem State.bumpDrop_store (s : State) (c : DropCounter) : (s.bumpDrop c).store = s.store := rfl
@[simp] theorem State.bumpDrop_aging (s : State) (c : DropCounter) : (s.bumpDrop c).aging = s.aging := rfl
@[simp] theorem State.bumpDrop_lanes (s : State) (c : DropCounter) : (s.bumpDrop c).lanes = s.lanes := rfl
@[simp] theorem State.bumpDrop_engine (s : State) (c : DropCounter) : (s.bumpDrop c).engine = s.engine := rfl
@[simp] theorem State.bumpDrop_ret (s : State) (c : DropCounter) : (s.bumpDrop c).ret = s.ret := rfl
@[simp] theorem State.bumpDrop_orphanTally (s : State) (c : DropCounter) : (s.bumpDrop c).orphanTally = s.orphanTally := rfl
@[simp] theorem State.bumpDrop_freeIndex (s : State) (c : DropCounter) : (s.bumpDrop c).freeIndex = s.freeIndex := rfl

/-! ## `bumpParcel` -/

@[simp] theorem State.bumpParcel_pending (s : State) (c : ParcelCounter) : (s.bumpParcel c).pending = s.pending := rfl
@[simp] theorem State.bumpParcel_resetn (s : State) (c : ParcelCounter) : (s.bumpParcel c).resetn = s.resetn := rfl
@[simp] theorem State.bumpParcel_building (s : State) (c : ParcelCounter) : (s.bumpParcel c).building = s.building := rfl
@[simp] theorem State.bumpParcel_mode (s : State) (c : ParcelCounter) : (s.bumpParcel c).mode = s.mode := rfl
@[simp] theorem State.bumpParcel_slotReports (s : State) (c : ParcelCounter) : (s.bumpParcel c).slotReports = s.slotReports := rfl
@[simp] theorem State.bumpParcel_controller (s : State) (c : ParcelCounter) : (s.bumpParcel c).controller = s.controller := rfl
@[simp] theorem State.bumpParcel_threads (s : State) (c : ParcelCounter) : (s.bumpParcel c).threads = s.threads := rfl
@[simp] theorem State.bumpParcel_slots (s : State) (c : ParcelCounter) : (s.bumpParcel c).slots = s.slots := rfl
@[simp] theorem State.bumpParcel_store (s : State) (c : ParcelCounter) : (s.bumpParcel c).store = s.store := rfl
@[simp] theorem State.bumpParcel_aging (s : State) (c : ParcelCounter) : (s.bumpParcel c).aging = s.aging := rfl
@[simp] theorem State.bumpParcel_lanes (s : State) (c : ParcelCounter) : (s.bumpParcel c).lanes = s.lanes := rfl
@[simp] theorem State.bumpParcel_engine (s : State) (c : ParcelCounter) : (s.bumpParcel c).engine = s.engine := rfl
@[simp] theorem State.bumpParcel_ret (s : State) (c : ParcelCounter) : (s.bumpParcel c).ret = s.ret := rfl
@[simp] theorem State.bumpParcel_orphanTally (s : State) (c : ParcelCounter) : (s.bumpParcel c).orphanTally = s.orphanTally := rfl
@[simp] theorem State.bumpParcel_freeIndex (s : State) (c : ParcelCounter) : (s.bumpParcel c).freeIndex = s.freeIndex := rfl

/-! ## `bumpLane` -/

@[simp] theorem State.bumpLane_pending (s : State) (n : LaneId) (c : LaneCounter) (m : Nat) : (s.bumpLane n c m).pending = s.pending := rfl
@[simp] theorem State.bumpLane_resetn (s : State) (n : LaneId) (c : LaneCounter) (m : Nat) : (s.bumpLane n c m).resetn = s.resetn := rfl
@[simp] theorem State.bumpLane_building (s : State) (n : LaneId) (c : LaneCounter) (m : Nat) : (s.bumpLane n c m).building = s.building := rfl
@[simp] theorem State.bumpLane_mode (s : State) (n : LaneId) (c : LaneCounter) (m : Nat) : (s.bumpLane n c m).mode = s.mode := rfl
@[simp] theorem State.bumpLane_slotReports (s : State) (n : LaneId) (c : LaneCounter) (m : Nat) : (s.bumpLane n c m).slotReports = s.slotReports := rfl
@[simp] theorem State.bumpLane_controller (s : State) (n : LaneId) (c : LaneCounter) (m : Nat) : (s.bumpLane n c m).controller = s.controller := rfl
@[simp] theorem State.bumpLane_threads (s : State) (n : LaneId) (c : LaneCounter) (m : Nat) : (s.bumpLane n c m).threads = s.threads := rfl
@[simp] theorem State.bumpLane_slots (s : State) (n : LaneId) (c : LaneCounter) (m : Nat) : (s.bumpLane n c m).slots = s.slots := rfl
@[simp] theorem State.bumpLane_store (s : State) (n : LaneId) (c : LaneCounter) (m : Nat) : (s.bumpLane n c m).store = s.store := rfl
@[simp] theorem State.bumpLane_aging (s : State) (n : LaneId) (c : LaneCounter) (m : Nat) : (s.bumpLane n c m).aging = s.aging := rfl
@[simp] theorem State.bumpLane_lanes (s : State) (n : LaneId) (c : LaneCounter) (m : Nat) : (s.bumpLane n c m).lanes = s.lanes := rfl
@[simp] theorem State.bumpLane_engine (s : State) (n : LaneId) (c : LaneCounter) (m : Nat) : (s.bumpLane n c m).engine = s.engine := rfl
@[simp] theorem State.bumpLane_ret (s : State) (n : LaneId) (c : LaneCounter) (m : Nat) : (s.bumpLane n c m).ret = s.ret := rfl
@[simp] theorem State.bumpLane_orphanTally (s : State) (n : LaneId) (c : LaneCounter) (m : Nat) : (s.bumpLane n c m).orphanTally = s.orphanTally := rfl
@[simp] theorem State.bumpLane_freeIndex (s : State) (n : LaneId) (c : LaneCounter) (m : Nat) : (s.bumpLane n c m).freeIndex = s.freeIndex := rfl

/-! ## `bumpDevice` -/

@[simp] theorem State.bumpDevice_pending (s : State) (c : DeviceCounter) : (s.bumpDevice c).pending = s.pending := rfl
@[simp] theorem State.bumpDevice_resetn (s : State) (c : DeviceCounter) : (s.bumpDevice c).resetn = s.resetn := rfl
@[simp] theorem State.bumpDevice_building (s : State) (c : DeviceCounter) : (s.bumpDevice c).building = s.building := rfl
@[simp] theorem State.bumpDevice_mode (s : State) (c : DeviceCounter) : (s.bumpDevice c).mode = s.mode := rfl
@[simp] theorem State.bumpDevice_slotReports (s : State) (c : DeviceCounter) : (s.bumpDevice c).slotReports = s.slotReports := rfl
@[simp] theorem State.bumpDevice_controller (s : State) (c : DeviceCounter) : (s.bumpDevice c).controller = s.controller := rfl
@[simp] theorem State.bumpDevice_threads (s : State) (c : DeviceCounter) : (s.bumpDevice c).threads = s.threads := rfl
@[simp] theorem State.bumpDevice_slots (s : State) (c : DeviceCounter) : (s.bumpDevice c).slots = s.slots := rfl
@[simp] theorem State.bumpDevice_store (s : State) (c : DeviceCounter) : (s.bumpDevice c).store = s.store := rfl
@[simp] theorem State.bumpDevice_aging (s : State) (c : DeviceCounter) : (s.bumpDevice c).aging = s.aging := rfl
@[simp] theorem State.bumpDevice_lanes (s : State) (c : DeviceCounter) : (s.bumpDevice c).lanes = s.lanes := rfl
@[simp] theorem State.bumpDevice_engine (s : State) (c : DeviceCounter) : (s.bumpDevice c).engine = s.engine := rfl
@[simp] theorem State.bumpDevice_ret (s : State) (c : DeviceCounter) : (s.bumpDevice c).ret = s.ret := rfl
@[simp] theorem State.bumpDevice_orphanTally (s : State) (c : DeviceCounter) : (s.bumpDevice c).orphanTally = s.orphanTally := rfl
@[simp] theorem State.bumpDevice_freeIndex (s : State) (c : DeviceCounter) : (s.bumpDevice c).freeIndex = s.freeIndex := rfl

/-! ## `reportSlot` -/

@[simp] theorem State.reportSlot_pending (s : State) : s.reportSlot.pending = s.pending := rfl
@[simp] theorem State.reportSlot_resetn (s : State) : s.reportSlot.resetn = s.resetn := rfl
@[simp] theorem State.reportSlot_building (s : State) : s.reportSlot.building = s.building := rfl
@[simp] theorem State.reportSlot_mode (s : State) : s.reportSlot.mode = s.mode := rfl
@[simp] theorem State.reportSlot_controller (s : State) : s.reportSlot.controller = s.controller := rfl
@[simp] theorem State.reportSlot_threads (s : State) : s.reportSlot.threads = s.threads := rfl
@[simp] theorem State.reportSlot_slots (s : State) : s.reportSlot.slots = s.slots := rfl
@[simp] theorem State.reportSlot_store (s : State) : s.reportSlot.store = s.store := rfl
@[simp] theorem State.reportSlot_aging (s : State) : s.reportSlot.aging = s.aging := rfl
@[simp] theorem State.reportSlot_lanes (s : State) : s.reportSlot.lanes = s.lanes := rfl
@[simp] theorem State.reportSlot_engine (s : State) : s.reportSlot.engine = s.engine := rfl
@[simp] theorem State.reportSlot_ret (s : State) : s.reportSlot.ret = s.ret := rfl
@[simp] theorem State.reportSlot_counters (s : State) : s.reportSlot.counters = s.counters := rfl
@[simp] theorem State.reportSlot_orphanTally (s : State) : s.reportSlot.orphanTally = s.orphanTally := rfl
@[simp] theorem State.reportSlot_freeIndex (s : State) : s.reportSlot.freeIndex = s.freeIndex := rfl

/-! ## `signalParcelEnd` -/

@[simp] theorem State.signalParcelEnd_pending (s : State) (t : ThreadId) : (s.signalParcelEnd t).pending = s.pending := rfl
@[simp] theorem State.signalParcelEnd_resetn (s : State) (t : ThreadId) : (s.signalParcelEnd t).resetn = s.resetn := rfl
@[simp] theorem State.signalParcelEnd_building (s : State) (t : ThreadId) : (s.signalParcelEnd t).building = s.building := rfl
@[simp] theorem State.signalParcelEnd_mode (s : State) (t : ThreadId) : (s.signalParcelEnd t).mode = s.mode := rfl
@[simp] theorem State.signalParcelEnd_slotReports (s : State) (t : ThreadId) : (s.signalParcelEnd t).slotReports = s.slotReports := rfl
@[simp] theorem State.signalParcelEnd_controller (s : State) (t : ThreadId) : (s.signalParcelEnd t).controller = s.controller := rfl
@[simp] theorem State.signalParcelEnd_slots (s : State) (t : ThreadId) : (s.signalParcelEnd t).slots = s.slots := rfl
@[simp] theorem State.signalParcelEnd_store (s : State) (t : ThreadId) : (s.signalParcelEnd t).store = s.store := rfl
@[simp] theorem State.signalParcelEnd_aging (s : State) (t : ThreadId) : (s.signalParcelEnd t).aging = s.aging := rfl
@[simp] theorem State.signalParcelEnd_lanes (s : State) (t : ThreadId) : (s.signalParcelEnd t).lanes = s.lanes := rfl
@[simp] theorem State.signalParcelEnd_engine (s : State) (t : ThreadId) : (s.signalParcelEnd t).engine = s.engine := rfl
@[simp] theorem State.signalParcelEnd_ret (s : State) (t : ThreadId) : (s.signalParcelEnd t).ret = s.ret := rfl
@[simp] theorem State.signalParcelEnd_counters (s : State) (t : ThreadId) : (s.signalParcelEnd t).counters = s.counters := rfl
@[simp] theorem State.signalParcelEnd_orphanTally (s : State) (t : ThreadId) : (s.signalParcelEnd t).orphanTally = s.orphanTally := rfl
@[simp] theorem State.signalParcelEnd_freeIndex (s : State) (t : ThreadId) : (s.signalParcelEnd t).freeIndex = s.freeIndex := rfl

/-! ## `freeSlot` -/

@[simp] theorem State.freeSlot_pending (s : State) (k : SlotId) (t : ThreadId) : (s.freeSlot k t).pending = s.pending := rfl
@[simp] theorem State.freeSlot_resetn (s : State) (k : SlotId) (t : ThreadId) : (s.freeSlot k t).resetn = s.resetn := rfl
@[simp] theorem State.freeSlot_building (s : State) (k : SlotId) (t : ThreadId) : (s.freeSlot k t).building = s.building := rfl
@[simp] theorem State.freeSlot_mode (s : State) (k : SlotId) (t : ThreadId) : (s.freeSlot k t).mode = s.mode := rfl
@[simp] theorem State.freeSlot_slotReports (s : State) (k : SlotId) (t : ThreadId) : (s.freeSlot k t).slotReports = s.slotReports := rfl
@[simp] theorem State.freeSlot_controller (s : State) (k : SlotId) (t : ThreadId) : (s.freeSlot k t).controller = s.controller := rfl
@[simp] theorem State.freeSlot_store (s : State) (k : SlotId) (t : ThreadId) : (s.freeSlot k t).store = s.store := rfl
@[simp] theorem State.freeSlot_aging (s : State) (k : SlotId) (t : ThreadId) : (s.freeSlot k t).aging = s.aging := rfl
@[simp] theorem State.freeSlot_lanes (s : State) (k : SlotId) (t : ThreadId) : (s.freeSlot k t).lanes = s.lanes := rfl
@[simp] theorem State.freeSlot_engine (s : State) (k : SlotId) (t : ThreadId) : (s.freeSlot k t).engine = s.engine := rfl
@[simp] theorem State.freeSlot_ret (s : State) (k : SlotId) (t : ThreadId) : (s.freeSlot k t).ret = s.ret := rfl
@[simp] theorem State.freeSlot_counters (s : State) (k : SlotId) (t : ThreadId) : (s.freeSlot k t).counters = s.counters := rfl
@[simp] theorem State.freeSlot_orphanTally (s : State) (k : SlotId) (t : ThreadId) : (s.freeSlot k t).orphanTally = s.orphanTally := rfl
@[simp] theorem State.freeSlot_freeIndex (s : State) (k : SlotId) (t : ThreadId) : (s.freeSlot k t).freeIndex = s.freeIndex := rfl

@[simp] theorem State.setCls_octets (s : State) (c : ClassId) (v : ClassAccount) : (s.setCls c v).store.octets = s.store.octets := rfl
@[simp] theorem State.setCls_unitClass (s : State) (c : ClassId) (v : ClassAccount) : (s.setCls c v).store.unitClass = s.store.unitClass := rfl
@[simp] theorem State.setCls_freeList (s : State) (c : ClassId) (v : ClassAccount) : (s.setCls c v).store.freeList = s.store.freeList := rfl
@[simp] theorem State.setCls_hysteresis (s : State) (c : ClassId) (v : ClassAccount) : (s.setCls c v).store.hysteresis = s.store.hysteresis := rfl
@[simp] theorem State.bumpParcel_counters_drops (s : State) (c : ParcelCounter) : (s.bumpParcel c).counters.drops = s.counters.drops := rfl
@[simp] theorem State.bumpLane_counters_drops (s : State) (n : LaneId) (c : LaneCounter) (m : Nat) : (s.bumpLane n c m).counters.drops = s.counters.drops := rfl
@[simp] theorem State.bumpDevice_counters_drops (s : State) (c : DeviceCounter) : (s.bumpDevice c).counters.drops = s.counters.drops := rfl
@[simp] theorem State.bumpDrop_counters_parcels (s : State) (c : DropCounter) : (s.bumpDrop c).counters.parcels = s.counters.parcels := rfl
@[simp] theorem State.bumpLane_counters_parcels (s : State) (n : LaneId) (c : LaneCounter) (m : Nat) : (s.bumpLane n c m).counters.parcels = s.counters.parcels := rfl
@[simp] theorem State.bumpDevice_counters_parcels (s : State) (c : DeviceCounter) : (s.bumpDevice c).counters.parcels = s.counters.parcels := rfl
@[simp] theorem State.bumpDrop_counters_lanes (s : State) (c : DropCounter) : (s.bumpDrop c).counters.lanes = s.counters.lanes := rfl
@[simp] theorem State.bumpParcel_counters_lanes (s : State) (c : ParcelCounter) : (s.bumpParcel c).counters.lanes = s.counters.lanes := rfl
@[simp] theorem State.bumpDevice_counters_lanes (s : State) (c : DeviceCounter) : (s.bumpDevice c).counters.lanes = s.counters.lanes := rfl
@[simp] theorem State.bumpDrop_counters_device (s : State) (c : DropCounter) : (s.bumpDrop c).counters.device = s.counters.device := rfl
@[simp] theorem State.bumpParcel_counters_device (s : State) (c : ParcelCounter) : (s.bumpParcel c).counters.device = s.counters.device := rfl
@[simp] theorem State.bumpLane_counters_device (s : State) (n : LaneId) (c : LaneCounter) (m : Nat) : (s.bumpLane n c m).counters.device = s.counters.device := rfl

/-! ## Reading a table after writing it -/

@[simp] theorem State.slot_setSlot_self (s : State) (k : SlotId) (v : Slot) : (s.setSlot k v).slot k = v := by
  simp [State.slot, State.setSlot]

theorem State.slot_setSlot_ne (s : State) (k j : SlotId) (v : Slot) (h : j ≠ k) :
    (s.setSlot k v).slot j = s.slot j := by
  have h' : k.val ≠ j.val := fun e => h (Fin.ext e.symm)
  simp [State.slot, State.setSlot, h']

theorem State.slot_setSlot (s : State) (k j : SlotId) (v : Slot) :
    (s.setSlot k v).slot j = if j = k then v else s.slot j := by
  by_cases h : j = k
  · subst h; simp
  · simp [h, State.slot_setSlot_ne]

@[simp] theorem State.thread_setThread_self (s : State) (t : ThreadId) (v : ThreadEntry) : (s.setThread t v).thread t = v := by
  simp [State.thread, State.setThread]

theorem State.thread_setThread_ne (s : State) (t u : ThreadId) (v : ThreadEntry) (h : u ≠ t) :
    (s.setThread t v).thread u = s.thread u := by
  have h' : t.val ≠ u.val := fun e => h (Fin.ext e.symm)
  simp [State.thread, State.setThread, h']

theorem State.thread_setThread (s : State) (t u : ThreadId) (v : ThreadEntry) :
    (s.setThread t v).thread u = if u = t then v else s.thread u := by
  by_cases h : u = t
  · subst h; simp
  · simp [h, State.thread_setThread_ne]

@[simp] theorem State.lane_setLane_self (s : State) (n : LaneId) (v : Lane) : (s.setLane n v).lane n = v := by
  simp [State.lane, State.setLane]

theorem State.lane_setLane_ne (s : State) (n m : LaneId) (v : Lane) (h : m ≠ n) :
    (s.setLane n v).lane m = s.lane m := by
  have h' : n.val ≠ m.val := fun e => h (Fin.ext e.symm)
  simp [State.lane, State.setLane, h']

theorem State.lane_setLane (s : State) (n m : LaneId) (v : Lane) :
    (s.setLane n v).lane m = if m = n then v else s.lane m := by
  by_cases h : m = n
  · subst h; simp
  · simp [h, State.lane_setLane_ne]

@[simp] theorem State.cls_setCls_self (s : State) (c : ClassId) (v : ClassAccount) : (s.setCls c v).cls c = v := by
  simp [State.cls, State.setCls]

theorem State.cls_setCls_ne (s : State) (c d : ClassId) (v : ClassAccount) (h : d ≠ c) :
    (s.setCls c v).cls d = s.cls d := by
  have h' : c.val ≠ d.val := fun e => h (Fin.ext e.symm)
  simp [State.cls, State.setCls, h']

theorem State.cls_setCls (s : State) (c d : ClassId) (v : ClassAccount) :
    (s.setCls c v).cls d = if d = c then v else s.cls d := by
  by_cases h : d = c
  · subst h; simp
  · simp [h, State.cls_setCls_ne]

@[simp] theorem State.thread_setBinding_self (s : State) (t : ThreadId) (b : Option SlotId) :
    (s.setBinding t b).thread t = { s.thread t with binding := b } := by
  simp [State.setBinding]

theorem State.thread_setBinding_ne (s : State) (t u : ThreadId) (b : Option SlotId) (h : u ≠ t) :
    (s.setBinding t b).thread u = s.thread u := by
  simp [State.setBinding, State.thread_setThread_ne, h]

/-! ## A reading depends on its own table only -/

theorem State.slot_congr (s v : State) (k : SlotId) (h : v.slots = s.slots) : v.slot k = s.slot k := by
  simp only [State.slot, h]

theorem State.thread_congr (s v : State) (t : ThreadId) (h : v.threads = s.threads) : v.thread t = s.thread t := by
  simp only [State.thread, h]

theorem State.cls_congr (s v : State) (c : ClassId) (h : v.store = s.store) : v.cls c = s.cls c := by
  simp only [State.cls, h]

theorem State.lane_congr (s v : State) (n : LaneId) (h : v.lanes = s.lanes) : v.lane n = s.lane n := by
  simp only [State.lane, h]

theorem State.drops_congr (s v : State) (c : DropCounter) (h : v.counters = s.counters) : v.drops c = s.drops c := by
  simp only [State.drops, h]

theorem State.parcels_congr (s v : State) (c : ParcelCounter) (h : v.counters = s.counters) : v.parcels c = s.parcels c := by
  simp only [State.parcels, h]

theorem State.laneCounter_congr (s v : State) (n : LaneId) (c : LaneCounter) (h : v.counters = s.counters) : v.laneCounter n c = s.laneCounter n c := by
  simp only [State.laneCounter, h]

theorem State.device_congr (s v : State) (c : DeviceCounter) (h : v.counters = s.counters) : v.device c = s.device c := by
  simp only [State.device, h]

theorem State.unitOctets_congr (s v : State) (u : UnitNo) (h : v.store = s.store) : v.unitOctets u = s.unitOctets u := by
  simp only [State.unitOctets, h]

theorem State.busySlots_congr (s t : State) (h : t.slots = s.slots) : t.busySlots = s.busySlots := by
  simp only [State.busySlots, h]

theorem State.boundSlot_congr (s t : State) (x : ThreadId) (h : t.slots = s.slots) (h' : t.threads = s.threads) :
    t.boundSlot x = s.boundSlot x := by
  have h1 : t.thread = s.thread := funext fun y => by simp only [State.thread, h']
  have h2 : t.slot = s.slot := funext fun y => by simp only [State.slot, h]
  unfold State.boundSlot
  rw [h1, h2]

/-! ## Reading one table across a write of another -/

@[simp] theorem State.thread_setSlot (s : State) (k : SlotId) (v : Slot) (x : ThreadId) : (s.setSlot k v).thread x = s.thread x := rfl
@[simp] theorem State.cls_setSlot (s : State) (k : SlotId) (v : Slot) (x : ClassId) : (s.setSlot k v).cls x = s.cls x := rfl
@[simp] theorem State.lane_setSlot (s : State) (k : SlotId) (v : Slot) (x : LaneId) : (s.setSlot k v).lane x = s.lane x := rfl
@[simp] theorem State.unitOctets_setSlot (s : State) (k : SlotId) (v : Slot) (x : UnitNo) : (s.setSlot k v).unitOctets x = s.unitOctets x := rfl
@[simp] theorem State.slot_setThread (s : State) (t : ThreadId) (v : ThreadEntry) (x : SlotId) : (s.setThread t v).slot x = s.slot x := rfl
@[simp] theorem State.cls_setThread (s : State) (t : ThreadId) (v : ThreadEntry) (x : ClassId) : (s.setThread t v).cls x = s.cls x := rfl
@[simp] theorem State.lane_setThread (s : State) (t : ThreadId) (v : ThreadEntry) (x : LaneId) : (s.setThread t v).lane x = s.lane x := rfl
@[simp] theorem State.unitOctets_setThread (s : State) (t : ThreadId) (v : ThreadEntry) (x : UnitNo) : (s.setThread t v).unitOctets x = s.unitOctets x := rfl
@[simp] theorem State.slot_setBinding (s : State) (t : ThreadId) (b : Option SlotId) (x : SlotId) : (s.setBinding t b).slot x = s.slot x := rfl
@[simp] theorem State.cls_setBinding (s : State) (t : ThreadId) (b : Option SlotId) (x : ClassId) : (s.setBinding t b).cls x = s.cls x := rfl
@[simp] theorem State.lane_setBinding (s : State) (t : ThreadId) (b : Option SlotId) (x : LaneId) : (s.setBinding t b).lane x = s.lane x := rfl
@[simp] theorem State.unitOctets_setBinding (s : State) (t : ThreadId) (b : Option SlotId) (x : UnitNo) : (s.setBinding t b).unitOctets x = s.unitOctets x := rfl
@[simp] theorem State.slot_setCls (s : State) (c : ClassId) (v : ClassAccount) (x : SlotId) : (s.setCls c v).slot x = s.slot x := rfl
@[simp] theorem State.thread_setCls (s : State) (c : ClassId) (v : ClassAccount) (x : ThreadId) : (s.setCls c v).thread x = s.thread x := rfl
@[simp] theorem State.lane_setCls (s : State) (c : ClassId) (v : ClassAccount) (x : LaneId) : (s.setCls c v).lane x = s.lane x := rfl
@[simp] theorem State.slot_setLane (s : State) (n : LaneId) (v : Lane) (x : SlotId) : (s.setLane n v).slot x = s.slot x := rfl
@[simp] theorem State.thread_setLane (s : State) (n : LaneId) (v : Lane) (x : ThreadId) : (s.setLane n v).thread x = s.thread x := rfl
@[simp] theorem State.cls_setLane (s : State) (n : LaneId) (v : Lane) (x : ClassId) : (s.setLane n v).cls x = s.cls x := rfl
@[simp] theorem State.unitOctets_setLane (s : State) (n : LaneId) (v : Lane) (x : UnitNo) : (s.setLane n v).unitOctets x = s.unitOctets x := rfl
@[simp] theorem State.slot_bumpDrop (s : State) (c : DropCounter) (x : SlotId) : (s.bumpDrop c).slot x = s.slot x := rfl
@[simp] theorem State.thread_bumpDrop (s : State) (c : DropCounter) (x : ThreadId) : (s.bumpDrop c).thread x = s.thread x := rfl
@[simp] theorem State.cls_bumpDrop (s : State) (c : DropCounter) (x : ClassId) : (s.bumpDrop c).cls x = s.cls x := rfl
@[simp] theorem State.lane_bumpDrop (s : State) (c : DropCounter) (x : LaneId) : (s.bumpDrop c).lane x = s.lane x := rfl
@[simp] theorem State.unitOctets_bumpDrop (s : State) (c : DropCounter) (x : UnitNo) : (s.bumpDrop c).unitOctets x = s.unitOctets x := rfl
@[simp] theorem State.slot_bumpParcel (s : State) (c : ParcelCounter) (x : SlotId) : (s.bumpParcel c).slot x = s.slot x := rfl
@[simp] theorem State.thread_bumpParcel (s : State) (c : ParcelCounter) (x : ThreadId) : (s.bumpParcel c).thread x = s.thread x := rfl
@[simp] theorem State.cls_bumpParcel (s : State) (c : ParcelCounter) (x : ClassId) : (s.bumpParcel c).cls x = s.cls x := rfl
@[simp] theorem State.lane_bumpParcel (s : State) (c : ParcelCounter) (x : LaneId) : (s.bumpParcel c).lane x = s.lane x := rfl
@[simp] theorem State.unitOctets_bumpParcel (s : State) (c : ParcelCounter) (x : UnitNo) : (s.bumpParcel c).unitOctets x = s.unitOctets x := rfl
@[simp] theorem State.slot_bumpLane (s : State) (n : LaneId) (c : LaneCounter) (m : Nat) (x : SlotId) : (s.bumpLane n c m).slot x = s.slot x := rfl
@[simp] theorem State.thread_bumpLane (s : State) (n : LaneId) (c : LaneCounter) (m : Nat) (x : ThreadId) : (s.bumpLane n c m).thread x = s.thread x := rfl
@[simp] theorem State.cls_bumpLane (s : State) (n : LaneId) (c : LaneCounter) (m : Nat) (x : ClassId) : (s.bumpLane n c m).cls x = s.cls x := rfl
@[simp] theorem State.lane_bumpLane (s : State) (n : LaneId) (c : LaneCounter) (m : Nat) (x : LaneId) : (s.bumpLane n c m).lane x = s.lane x := rfl
@[simp] theorem State.unitOctets_bumpLane (s : State) (n : LaneId) (c : LaneCounter) (m : Nat) (x : UnitNo) : (s.bumpLane n c m).unitOctets x = s.unitOctets x := rfl
@[simp] theorem State.slot_bumpDevice (s : State) (c : DeviceCounter) (x : SlotId) : (s.bumpDevice c).slot x = s.slot x := rfl
@[simp] theorem State.thread_bumpDevice (s : State) (c : DeviceCounter) (x : ThreadId) : (s.bumpDevice c).thread x = s.thread x := rfl
@[simp] theorem State.cls_bumpDevice (s : State) (c : DeviceCounter) (x : ClassId) : (s.bumpDevice c).cls x = s.cls x := rfl
@[simp] theorem State.lane_bumpDevice (s : State) (c : DeviceCounter) (x : LaneId) : (s.bumpDevice c).lane x = s.lane x := rfl
@[simp] theorem State.unitOctets_bumpDevice (s : State) (c : DeviceCounter) (x : UnitNo) : (s.bumpDevice c).unitOctets x = s.unitOctets x := rfl
@[simp] theorem State.slot_reportSlot (s : State) (x : SlotId) : (s.reportSlot).slot x = s.slot x := rfl
@[simp] theorem State.thread_reportSlot (s : State) (x : ThreadId) : (s.reportSlot).thread x = s.thread x := rfl
@[simp] theorem State.cls_reportSlot (s : State) (x : ClassId) : (s.reportSlot).cls x = s.cls x := rfl
@[simp] theorem State.lane_reportSlot (s : State) (x : LaneId) : (s.reportSlot).lane x = s.lane x := rfl
@[simp] theorem State.unitOctets_reportSlot (s : State) (x : UnitNo) : (s.reportSlot).unitOctets x = s.unitOctets x := rfl
@[simp] theorem State.slot_signalParcelEnd (s : State) (t : ThreadId) (x : SlotId) : (s.signalParcelEnd t).slot x = s.slot x := rfl
@[simp] theorem State.cls_signalParcelEnd (s : State) (t : ThreadId) (x : ClassId) : (s.signalParcelEnd t).cls x = s.cls x := rfl
@[simp] theorem State.lane_signalParcelEnd (s : State) (t : ThreadId) (x : LaneId) : (s.signalParcelEnd t).lane x = s.lane x := rfl
@[simp] theorem State.unitOctets_signalParcelEnd (s : State) (t : ThreadId) (x : UnitNo) : (s.signalParcelEnd t).unitOctets x = s.unitOctets x := rfl
@[simp] theorem State.cls_freeSlot (s : State) (k : SlotId) (t : ThreadId) (x : ClassId) : (s.freeSlot k t).cls x = s.cls x := rfl
@[simp] theorem State.lane_freeSlot (s : State) (k : SlotId) (t : ThreadId) (x : LaneId) : (s.freeSlot k t).lane x = s.lane x := rfl
@[simp] theorem State.unitOctets_freeSlot (s : State) (k : SlotId) (t : ThreadId) (x : UnitNo) : (s.freeSlot k t).unitOctets x = s.unitOctets x := rfl

end Sys2Proof.Machine
end

