-- ==== Sys2Proof/Laws/Memory.lean ====
section
/-! SUPPORT. The laws of the octet buffer: a read after a write, other addresses untouched, and the canonical form kept by every memory operation. -/

namespace Sys2Proof.Machine

/-- The canonical form, as a proposition. -/
theorem Memory.wf_iff (m : List Host.Cell) :
    Memory.wf m = true ↔ m.Pairwise (fun c d => c.1 < d.1) ∧ ∀ c ∈ m, c.2 ≠ unlistedOctet := by
  simp [Memory.wf]

theorem Memory.wf_nil : Memory.wf [] = true := by simp [Memory.wf_iff]

/-! ## Reads and writes -/

theorem Memory.read_of_lt (m : List Host.Cell) (a : Nat) (h : ∀ c ∈ m, a < c.1) :
    Memory.read m a = unlistedOctet := by
  induction m with
  | nil => rfl
  | cons c rest ih =>
    have hc : c.1 ≠ a := fun e => by have := h c (by simp); omega
    simp only [Memory.read, hc, if_false]
    exact ih fun d hd => h d (by simp [hd])

theorem Memory.read_cons (a x : Nat) (b : Byte) (m : List Host.Cell) (h : ∀ c ∈ m, a < c.1) :
    Memory.read (Memory.cons a b m) x = if x = a then b else Memory.read m x := by
  unfold Memory.cons
  by_cases hb : b = unlistedOctet
  · by_cases hx : x = a
    · subst hx; simp [hb, Memory.read_of_lt m x h]
    · simp [hb, hx]
  · by_cases hx : x = a
    · simp [hb, hx, Memory.read]
    · simp [hb, hx, Memory.read, Ne.symm hx]

/-- One octet written: the address written reads the octet, every other address reads as before. -/
theorem Memory.read_write (m : List Host.Cell) (a x : Nat) (b : Byte) (h : Memory.wf m = true) :
    Memory.read (Memory.write m a b) x = if x = a then b else Memory.read m x := by
  rw [Memory.wf_iff] at h
  induction m with
  | nil => simpa [Memory.write] using Memory.read_cons a x b [] (by simp)
  | cons c rest ih =>
    obtain ⟨hp, hu⟩ := h
    rw [List.pairwise_cons] at hp
    have ih' := ih ⟨hp.2, fun d hd => hu d (by simp [hd])⟩
    unfold Memory.write
    by_cases h1 : c.1 < a
    · simp only [h1, if_true, Memory.read]
      by_cases hc : c.1 = x
      · have : x ≠ a := by omega
        simp [hc, this]
      · simpa [hc] using ih'
    · by_cases h2 : c.1 = a
      · simp only [h2, Nat.lt_irrefl, if_false, if_true]
        rw [Memory.read_cons a x b rest (fun d hd => h2 ▸ hp.1 d hd)]
        by_cases hx : x = a
        · simp [hx]
        · have : c.1 ≠ x := by omega
          simp [hx, Memory.read, this]
      · simp only [h1, h2, if_false]
        rw [Memory.read_cons a x b (c :: rest)]
        intro d hd
        rcases List.mem_cons.1 hd with rfl | hd
        · omega
        · have := hp.1 d hd; omega

/-! ## The canonical form -/

theorem Memory.wf_cons (a : Nat) (b : Byte) (m : List Host.Cell) (h : Memory.wf m = true) (ha : ∀ c ∈ m, a < c.1) :
    Memory.wf (Memory.cons a b m) = true := by
  unfold Memory.cons
  by_cases hb : b = unlistedOctet
  · simpa [hb] using h
  · rw [Memory.wf_iff] at h ⊢
    simp only [hb, if_false]
    exact ⟨List.pairwise_cons.2 ⟨ha, h.1⟩, by simpa [hb] using h.2⟩

theorem Memory.mem_write (m : List Host.Cell) (a : Nat) (b : Byte) (c : Host.Cell) (h : c ∈ Memory.write m a b) :
    c.1 = a ∨ c ∈ m := by
  induction m with
  | nil =>
    unfold Memory.write Memory.cons at h
    split at h <;> simp_all
  | cons d rest ih =>
    unfold Memory.write at h
    split at h
    · rcases List.mem_cons.1 h with rfl | h
      · simp
      · rcases ih h with h | h <;> simp [h]
    · split at h <;> unfold Memory.cons at h <;> split at h <;> simp_all <;>
        (try rcases h with h | h) <;> simp_all

/-- A write keeps the canonical form. -/
theorem Memory.wf_write (m : List Host.Cell) (a : Nat) (b : Byte) (h : Memory.wf m = true) :
    Memory.wf (Memory.write m a b) = true := by
  induction m with
  | nil => exact Memory.wf_cons a b [] h (by simp)
  | cons c rest ih =>
    have hw := (Memory.wf_iff _).1 h
    have hp := List.pairwise_cons.1 hw.1
    have hr : Memory.wf rest = true := (Memory.wf_iff _).2 ⟨hp.2, fun d hd => hw.2 d (by simp [hd])⟩
    unfold Memory.write
    split
    · rename_i hlt
      have hi := (Memory.wf_iff _).1 (ih hr)
      refine (Memory.wf_iff _).2 ⟨List.pairwise_cons.2 ⟨fun d hd => ?_, hi.1⟩, ?_⟩
      · rcases Memory.mem_write rest a b d hd with hd | hd
        · omega
        · exact hp.1 d hd
      · intro d hd
        rcases List.mem_cons.1 hd with rfl | hd
        · exact hw.2 d (by simp)
        · exact hi.2 d hd
    · split
      · rename_i h2
        exact Memory.wf_cons a b rest hr fun d hd => h2 ▸ hp.1 d hd
      · refine Memory.wf_cons a b _ h fun d hd => ?_
        rcases List.mem_cons.1 hd with rfl | hd
        · omega
        · have := hp.1 d hd; omega

theorem Memory.wf_writeAll (bs : List Byte) (m : List Host.Cell) (a : Nat) (h : Memory.wf m = true) :
    Memory.wf (Memory.writeAll m a bs) = true := by
  induction bs generalizing m a with
  | nil => exact h
  | cons b bs ih => exact ih _ _ (Memory.wf_write m a b h)

/-- Octets written at rising addresses: each address written reads its octet, every other address reads as before. -/
theorem Memory.read_writeAll (bs : List Byte) (m : List Host.Cell) (a x : Nat) (h : Memory.wf m = true) :
    Memory.read (Memory.writeAll m a bs) x = if a ≤ x ∧ x < a + bs.length then bs.getD (x - a) 0 else Memory.read m x := by
  induction bs generalizing m a with
  | nil => simp [Memory.writeAll]
  | cons b bs ih =>
    rw [Memory.writeAll, ih _ _ (Memory.wf_write m a b h), Memory.read_write m a x b h]
    by_cases hx : x = a
    · subst hx; simp
    · by_cases h1 : a + 1 ≤ x ∧ x < a + 1 + bs.length
      · have h2 : a ≤ x ∧ x < a + (b :: bs).length := by simp; omega
        obtain ⟨k, hk⟩ : ∃ k, x - a = k + 1 := ⟨x - a - 1, by omega⟩
        have hk' : x - (a + 1) = k := by omega
        simp only [h1, h2, and_self, if_true, hk, hk', List.getD_cons_succ]
      · have h2 : ¬ (a ≤ x ∧ x < a + (b :: bs).length) := by simp; omega
        simp only [h1, h2, if_false, hx]

theorem Memory.length_readAll (m : List Host.Cell) (a n : Nat) : (Memory.readAll m a n).length = n := by
  induction n generalizing a with
  | zero => rfl
  | succ n ih => simp [Memory.readAll, ih]

theorem Memory.getD_readAll (m : List Host.Cell) (a n i : Nat) (h : i < n) :
    (Memory.readAll m a n).getD i 0 = Memory.read m (a + i) := by
  induction n generalizing a i with
  | zero => omega
  | succ n ih =>
    cases i with
    | zero => simp [Memory.readAll]
    | succ i =>
      rw [Memory.readAll, List.getD_cons_succ, ih (a + 1) i (by omega)]
      congr 1; omega

theorem Memory.readAll_congr (m m' : List Host.Cell) (a n : Nat)
    (h : ∀ x, a ≤ x → x < a + n → Memory.read m' x = Memory.read m x) : Memory.readAll m' a n = Memory.readAll m a n := by
  induction n generalizing a with
  | zero => rfl
  | succ n ih =>
    rw [Memory.readAll, Memory.readAll, h a (by omega) (by omega), ih (a + 1) fun x h1 h2 => h x (by omega) (by omega)]

/-- The octets just written read back. -/
theorem Memory.readAll_writeAll_self (m : List Host.Cell) (a : Nat) (bs : List Byte) (h : Memory.wf m = true) :
    Memory.readAll (Memory.writeAll m a bs) a bs.length = bs := by
  apply List.ext_getElem (by simp [Memory.length_readAll])
  intro i h1 h2
  have h3 : i < bs.length := h2
  have := Memory.getD_readAll (Memory.writeAll m a bs) a bs.length i h3
  rw [Memory.read_writeAll bs m a _ h] at this
  simpa [h3, List.getD_eq_getElem?_getD, h1] using this

end Sys2Proof.Machine
end

