-- ==== Sys2Proof/Laws/Returns.lean ====
section
/-! SUPPORT. The Return Link Controller: what each of its operations leaves unchanged, and what the arbiter chooses. -/

namespace Sys2Proof.Machine

/-! ## What the operations leave unchanged -/

/-! ### `arbitrate` -/

@[simp] theorem State.arbitrate_pending (s : State) : s.arbitrate.pending = s.pending := rfl
@[simp] theorem State.arbitrate_resetn (s : State) : s.arbitrate.resetn = s.resetn := rfl
@[simp] theorem State.arbitrate_building (s : State) : s.arbitrate.building = s.building := rfl
@[simp] theorem State.arbitrate_mode (s : State) : s.arbitrate.mode = s.mode := rfl
@[simp] theorem State.arbitrate_slotReports (s : State) : s.arbitrate.slotReports = s.slotReports := rfl
@[simp] theorem State.arbitrate_controller (s : State) : s.arbitrate.controller = s.controller := rfl
@[simp] theorem State.arbitrate_threads (s : State) : s.arbitrate.threads = s.threads := rfl
@[simp] theorem State.arbitrate_slots (s : State) : s.arbitrate.slots = s.slots := rfl
@[simp] theorem State.arbitrate_store (s : State) : s.arbitrate.store = s.store := rfl
@[simp] theorem State.arbitrate_aging (s : State) : s.arbitrate.aging = s.aging := rfl
@[simp] theorem State.arbitrate_lanes (s : State) : s.arbitrate.lanes = s.lanes := rfl
@[simp] theorem State.arbitrate_engine (s : State) : s.arbitrate.engine = s.engine := rfl
@[simp] theorem State.arbitrate_counters (s : State) : s.arbitrate.counters = s.counters := rfl
@[simp] theorem State.arbitrate_orphanTally (s : State) : s.arbitrate.orphanTally = s.orphanTally := rfl
@[simp] theorem State.arbitrate_freeIndex (s : State) : s.arbitrate.freeIndex = s.freeIndex := rfl
@[simp] theorem State.slot_arbitrate (s : State) (x : SlotId) : s.arbitrate.slot x = s.slot x :=
  State.slot_congr _ _ _ (State.arbitrate_slots s)
@[simp] theorem State.thread_arbitrate (s : State) (x : ThreadId) : s.arbitrate.thread x = s.thread x :=
  State.thread_congr _ _ _ (State.arbitrate_threads s)
@[simp] theorem State.cls_arbitrate (s : State) (x : ClassId) : s.arbitrate.cls x = s.cls x :=
  State.cls_congr _ _ _ (State.arbitrate_store s)
@[simp] theorem State.lane_arbitrate (s : State) (x : LaneId) : s.arbitrate.lane x = s.lane x :=
  State.lane_congr _ _ _ (State.arbitrate_lanes s)
/-! ### `queueReply` -/

@[simp] theorem State.queueReply_pending (s : State) (p : Reply) : (s.queueReply p).pending = s.pending := rfl
@[simp] theorem State.queueReply_resetn (s : State) (p : Reply) : (s.queueReply p).resetn = s.resetn := rfl
@[simp] theorem State.queueReply_building (s : State) (p : Reply) : (s.queueReply p).building = s.building := rfl
@[simp] theorem State.queueReply_mode (s : State) (p : Reply) : (s.queueReply p).mode = s.mode := rfl
@[simp] theorem State.queueReply_slotReports (s : State) (p : Reply) : (s.queueReply p).slotReports = s.slotReports := rfl
@[simp] theorem State.queueReply_controller (s : State) (p : Reply) : (s.queueReply p).controller = s.controller := rfl
@[simp] theorem State.queueReply_threads (s : State) (p : Reply) : (s.queueReply p).threads = s.threads := rfl
@[simp] theorem State.queueReply_slots (s : State) (p : Reply) : (s.queueReply p).slots = s.slots := rfl
@[simp] theorem State.queueReply_store (s : State) (p : Reply) : (s.queueReply p).store = s.store := rfl
@[simp] theorem State.queueReply_aging (s : State) (p : Reply) : (s.queueReply p).aging = s.aging := rfl
@[simp] theorem State.queueReply_lanes (s : State) (p : Reply) : (s.queueReply p).lanes = s.lanes := rfl
@[simp] theorem State.queueReply_engine (s : State) (p : Reply) : (s.queueReply p).engine = s.engine := rfl
@[simp] theorem State.queueReply_counters (s : State) (p : Reply) : (s.queueReply p).counters = s.counters := rfl
@[simp] theorem State.queueReply_orphanTally (s : State) (p : Reply) : (s.queueReply p).orphanTally = s.orphanTally := rfl
@[simp] theorem State.queueReply_freeIndex (s : State) (p : Reply) : (s.queueReply p).freeIndex = s.freeIndex := rfl
@[simp] theorem State.slot_queueReply (s : State) (p : Reply) (x : SlotId) : (s.queueReply p).slot x = s.slot x :=
  State.slot_congr _ _ _ (State.queueReply_slots s p)
@[simp] theorem State.thread_queueReply (s : State) (p : Reply) (x : ThreadId) : (s.queueReply p).thread x = s.thread x :=
  State.thread_congr _ _ _ (State.queueReply_threads s p)
@[simp] theorem State.cls_queueReply (s : State) (p : Reply) (x : ClassId) : (s.queueReply p).cls x = s.cls x :=
  State.cls_congr _ _ _ (State.queueReply_store s p)
@[simp] theorem State.lane_queueReply (s : State) (p : Reply) (x : LaneId) : (s.queueReply p).lane x = s.lane x :=
  State.lane_congr _ _ _ (State.queueReply_lanes s p)
/-! ### `raise` -/

@[simp] theorem State.raise_pending (s : State) (kind : NoticeKind) (t : Option ThreadId) (g : Option Tag) (n : Option LaneId) (c : Option (BitVec 16)) : (s.raise kind t g n c).pending = s.pending := by
  unfold State.raise; split; rfl; split <;> rfl
@[simp] theorem State.raise_resetn (s : State) (kind : NoticeKind) (t : Option ThreadId) (g : Option Tag) (n : Option LaneId) (c : Option (BitVec 16)) : (s.raise kind t g n c).resetn = s.resetn := by
  unfold State.raise; split; rfl; split <;> rfl
@[simp] theorem State.raise_building (s : State) (kind : NoticeKind) (t : Option ThreadId) (g : Option Tag) (n : Option LaneId) (c : Option (BitVec 16)) : (s.raise kind t g n c).building = s.building := by
  unfold State.raise; split; rfl; split <;> rfl
@[simp] theorem State.raise_mode (s : State) (kind : NoticeKind) (t : Option ThreadId) (g : Option Tag) (n : Option LaneId) (c : Option (BitVec 16)) : (s.raise kind t g n c).mode = s.mode := by
  unfold State.raise; split; rfl; split <;> rfl
@[simp] theorem State.raise_slotReports (s : State) (kind : NoticeKind) (t : Option ThreadId) (g : Option Tag) (n : Option LaneId) (c : Option (BitVec 16)) : (s.raise kind t g n c).slotReports = s.slotReports := by
  unfold State.raise; split; rfl; split <;> rfl
@[simp] theorem State.raise_controller (s : State) (kind : NoticeKind) (t : Option ThreadId) (g : Option Tag) (n : Option LaneId) (c : Option (BitVec 16)) : (s.raise kind t g n c).controller = s.controller := by
  unfold State.raise; split; rfl; split <;> rfl
@[simp] theorem State.raise_threads (s : State) (kind : NoticeKind) (t : Option ThreadId) (g : Option Tag) (n : Option LaneId) (c : Option (BitVec 16)) : (s.raise kind t g n c).threads = s.threads := by
  unfold State.raise; split; rfl; split <;> rfl
@[simp] theorem State.raise_slots (s : State) (kind : NoticeKind) (t : Option ThreadId) (g : Option Tag) (n : Option LaneId) (c : Option (BitVec 16)) : (s.raise kind t g n c).slots = s.slots := by
  unfold State.raise; split; rfl; split <;> rfl
@[simp] theorem State.raise_store (s : State) (kind : NoticeKind) (t : Option ThreadId) (g : Option Tag) (n : Option LaneId) (c : Option (BitVec 16)) : (s.raise kind t g n c).store = s.store := by
  unfold State.raise; split; rfl; split <;> rfl
@[simp] theorem State.raise_aging (s : State) (kind : NoticeKind) (t : Option ThreadId) (g : Option Tag) (n : Option LaneId) (c : Option (BitVec 16)) : (s.raise kind t g n c).aging = s.aging := by
  unfold State.raise; split; rfl; split <;> rfl
@[simp] theorem State.raise_lanes (s : State) (kind : NoticeKind) (t : Option ThreadId) (g : Option Tag) (n : Option LaneId) (c : Option (BitVec 16)) : (s.raise kind t g n c).lanes = s.lanes := by
  unfold State.raise; split; rfl; split <;> rfl
@[simp] theorem State.raise_engine (s : State) (kind : NoticeKind) (t : Option ThreadId) (g : Option Tag) (n : Option LaneId) (c : Option (BitVec 16)) : (s.raise kind t g n c).engine = s.engine := by
  unfold State.raise; split; rfl; split <;> rfl
@[simp] theorem State.raise_orphanTally (s : State) (kind : NoticeKind) (t : Option ThreadId) (g : Option Tag) (n : Option LaneId) (c : Option (BitVec 16)) : (s.raise kind t g n c).orphanTally = s.orphanTally := by
  unfold State.raise; split; rfl; split <;> rfl
@[simp] theorem State.raise_freeIndex (s : State) (kind : NoticeKind) (t : Option ThreadId) (g : Option Tag) (n : Option LaneId) (c : Option (BitVec 16)) : (s.raise kind t g n c).freeIndex = s.freeIndex := by
  unfold State.raise; split; rfl; split <;> rfl
@[simp] theorem State.slot_raise (s : State) (kind : NoticeKind) (t : Option ThreadId) (g : Option Tag) (n : Option LaneId) (c : Option (BitVec 16)) (x : SlotId) : (s.raise kind t g n c).slot x = s.slot x :=
  State.slot_congr _ _ _ (State.raise_slots s kind t g n c)
@[simp] theorem State.thread_raise (s : State) (kind : NoticeKind) (t : Option ThreadId) (g : Option Tag) (n : Option LaneId) (c : Option (BitVec 16)) (x : ThreadId) : (s.raise kind t g n c).thread x = s.thread x :=
  State.thread_congr _ _ _ (State.raise_threads s kind t g n c)
@[simp] theorem State.cls_raise (s : State) (kind : NoticeKind) (t : Option ThreadId) (g : Option Tag) (n : Option LaneId) (c : Option (BitVec 16)) (x : ClassId) : (s.raise kind t g n c).cls x = s.cls x :=
  State.cls_congr _ _ _ (State.raise_store s kind t g n c)
@[simp] theorem State.lane_raise (s : State) (kind : NoticeKind) (t : Option ThreadId) (g : Option Tag) (n : Option LaneId) (c : Option (BitVec 16)) (x : LaneId) : (s.raise kind t g n c).lane x = s.lane x :=
  State.lane_congr _ _ _ (State.raise_lanes s kind t g n c)
/-! ### `handOffCongestion` -/

@[simp] theorem State.handOffCongestion_pending (s : State) : s.handOffCongestion.pending = s.pending := rfl
@[simp] theorem State.handOffCongestion_resetn (s : State) : s.handOffCongestion.resetn = s.resetn := rfl
@[simp] theorem State.handOffCongestion_building (s : State) : s.handOffCongestion.building = s.building := rfl
@[simp] theorem State.handOffCongestion_mode (s : State) : s.handOffCongestion.mode = s.mode := rfl
@[simp] theorem State.handOffCongestion_slotReports (s : State) : s.handOffCongestion.slotReports = s.slotReports := rfl
@[simp] theorem State.handOffCongestion_controller (s : State) : s.handOffCongestion.controller = s.controller := rfl
@[simp] theorem State.handOffCongestion_threads (s : State) : s.handOffCongestion.threads = s.threads := rfl
@[simp] theorem State.handOffCongestion_slots (s : State) : s.handOffCongestion.slots = s.slots := rfl
@[simp] theorem State.handOffCongestion_store (s : State) : s.handOffCongestion.store = s.store := rfl
@[simp] theorem State.handOffCongestion_aging (s : State) : s.handOffCongestion.aging = s.aging := rfl
@[simp] theorem State.handOffCongestion_lanes (s : State) : s.handOffCongestion.lanes = s.lanes := rfl
@[simp] theorem State.handOffCongestion_engine (s : State) : s.handOffCongestion.engine = s.engine := rfl
@[simp] theorem State.handOffCongestion_orphanTally (s : State) : s.handOffCongestion.orphanTally = s.orphanTally := rfl
@[simp] theorem State.handOffCongestion_freeIndex (s : State) : s.handOffCongestion.freeIndex = s.freeIndex := rfl
@[simp] theorem State.slot_handOffCongestion (s : State) (x : SlotId) : s.handOffCongestion.slot x = s.slot x :=
  State.slot_congr _ _ _ (State.handOffCongestion_slots s)
@[simp] theorem State.thread_handOffCongestion (s : State) (x : ThreadId) : s.handOffCongestion.thread x = s.thread x :=
  State.thread_congr _ _ _ (State.handOffCongestion_threads s)
@[simp] theorem State.cls_handOffCongestion (s : State) (x : ClassId) : s.handOffCongestion.cls x = s.cls x :=
  State.cls_congr _ _ _ (State.handOffCongestion_store s)
@[simp] theorem State.lane_handOffCongestion (s : State) (x : LaneId) : s.handOffCongestion.lane x = s.lane x :=
  State.lane_congr _ _ _ (State.handOffCongestion_lanes s)
/-! ### `dropOrphan` -/

@[simp] theorem State.dropOrphan_pending (s : State) (t : ThreadId) : (s.dropOrphan t).pending = s.pending := by
  unfold State.dropOrphan; dsimp only; split
  · simp
  · rfl
@[simp] theorem State.dropOrphan_resetn (s : State) (t : ThreadId) : (s.dropOrphan t).resetn = s.resetn := by
  unfold State.dropOrphan; dsimp only; split
  · simp
  · rfl
@[simp] theorem State.dropOrphan_building (s : State) (t : ThreadId) : (s.dropOrphan t).building = s.building := by
  unfold State.dropOrphan; dsimp only; split
  · simp
  · rfl
@[simp] theorem State.dropOrphan_mode (s : State) (t : ThreadId) : (s.dropOrphan t).mode = s.mode := by
  unfold State.dropOrphan; dsimp only; split
  · simp
  · rfl
@[simp] theorem State.dropOrphan_slotReports (s : State) (t : ThreadId) : (s.dropOrphan t).slotReports = s.slotReports := by
  unfold State.dropOrphan; dsimp only; split
  · simp
  · rfl
@[simp] theorem State.dropOrphan_controller (s : State) (t : ThreadId) : (s.dropOrphan t).controller = s.controller := by
  unfold State.dropOrphan; dsimp only; split
  · simp
  · rfl
@[simp] theorem State.dropOrphan_threads (s : State) (t : ThreadId) : (s.dropOrphan t).threads = s.threads := by
  unfold State.dropOrphan; dsimp only; split
  · simp
  · rfl
@[simp] theorem State.dropOrphan_slots (s : State) (t : ThreadId) : (s.dropOrphan t).slots = s.slots := by
  unfold State.dropOrphan; dsimp only; split
  · simp
  · rfl
@[simp] theorem State.dropOrphan_store (s : State) (t : ThreadId) : (s.dropOrphan t).store = s.store := by
  unfold State.dropOrphan; dsimp only; split
  · simp
  · rfl
@[simp] theorem State.dropOrphan_aging (s : State) (t : ThreadId) : (s.dropOrphan t).aging = s.aging := by
  unfold State.dropOrphan; dsimp only; split
  · simp
  · rfl
@[simp] theorem State.dropOrphan_lanes (s : State) (t : ThreadId) : (s.dropOrphan t).lanes = s.lanes := by
  unfold State.dropOrphan; dsimp only; split
  · simp
  · rfl
@[simp] theorem State.dropOrphan_engine (s : State) (t : ThreadId) : (s.dropOrphan t).engine = s.engine := by
  unfold State.dropOrphan; dsimp only; split
  · simp
  · rfl
@[simp] theorem State.dropOrphan_freeIndex (s : State) (t : ThreadId) : (s.dropOrphan t).freeIndex = s.freeIndex := by
  unfold State.dropOrphan; dsimp only; split
  · simp
  · rfl
@[simp] theorem State.slot_dropOrphan (s : State) (t : ThreadId) (x : SlotId) : (s.dropOrphan t).slot x = s.slot x :=
  State.slot_congr _ _ _ (State.dropOrphan_slots s t)
@[simp] theorem State.thread_dropOrphan (s : State) (t : ThreadId) (x : ThreadId) : (s.dropOrphan t).thread x = s.thread x :=
  State.thread_congr _ _ _ (State.dropOrphan_threads s t)
@[simp] theorem State.cls_dropOrphan (s : State) (t : ThreadId) (x : ClassId) : (s.dropOrphan t).cls x = s.cls x :=
  State.cls_congr _ _ _ (State.dropOrphan_store s t)
@[simp] theorem State.lane_dropOrphan (s : State) (t : ThreadId) (x : LaneId) : (s.dropOrphan t).lane x = s.lane x :=
  State.lane_congr _ _ _ (State.dropOrphan_lanes s t)
/-! ## What the arbiter chooses -/

/-- While a shard is on the link the arbiter chooses nothing (10 R152). -/
theorem ReturnLink.arbitrate_busy (r : ReturnLink) (c : ReturnContent) (h : r.onLink.isSome = true) :
    r.arbitrate c = r := by
  simp [ReturnLink.arbitrate, h]

/-- On an IDLE link a congestion status comes first, unless the full-restart hold is set (10 R152). -/
theorem ReturnLink.arbitrate_congestion (r : ReturnLink) (c : ReturnContent) (h : r.onLink = none)
    (hp : r.congestionPending = true) (hh : r.fullRestartHold = false) :
    r.arbitrate c =
      { r with congestionPending := false, onLink := some ⟨r.sequence, c⟩, sequence := r.sequence + 1 } := by
  simp [ReturnLink.arbitrate, h, hp, hh, ReturnLink.begin_]

/-- Otherwise the head of the reply queue comes next, and its beginning clears the hold (10 R152, R153). -/
theorem ReturnLink.arbitrate_reply (r : ReturnLink) (c : ReturnContent) (p : Reply) (rest : List Reply)
    (h : r.onLink = none) (hp : (r.congestionPending && !r.fullRestartHold) = false) (hr : r.replies = p :: rest) :
    r.arbitrate c =
      { r with replies := rest, fullRestartHold := false, onLink := some ⟨r.sequence, .reply p⟩,
               sequence := r.sequence + 1 } := by
  simp [ReturnLink.arbitrate, h, hp, hr, ReturnLink.begin_]

/-- Otherwise the head of the notice queue (10 R152). -/
theorem ReturnLink.arbitrate_notice (r : ReturnLink) (c : ReturnContent) (n : Notice) (rest : List Notice)
    (h : r.onLink = none) (hp : (r.congestionPending && !r.fullRestartHold) = false) (hr : r.replies = [])
    (hn : r.notices = n :: rest) :
    r.arbitrate c =
      { r with notices := rest, onLink := some ⟨r.sequence, .notice n⟩, sequence := r.sequence + 1 } := by
  simp [ReturnLink.arbitrate, h, hp, hr, hn, ReturnLink.begin_]

/-- With nothing it may choose the link stays IDLE (10 R152). -/
theorem ReturnLink.arbitrate_nothing (r : ReturnLink) (c : ReturnContent)
    (hp : (r.congestionPending && !r.fullRestartHold) = false) (hr : r.replies = []) (hn : r.notices = []) :
    r.arbitrate c = r := by
  unfold ReturnLink.arbitrate
  simp [hp, hr, hn]

/-- The arbiter leaves the lost-notice count and the notice mask alone. -/
@[simp] theorem ReturnLink.arbitrate_lostNotices (r : ReturnLink) (c : ReturnContent) :
    (r.arbitrate c).lostNotices = r.lostNotices := by
  unfold ReturnLink.arbitrate
  split; rfl; split; rfl; split; rfl; split <;> rfl

@[simp] theorem ReturnLink.arbitrate_noticeMask (r : ReturnLink) (c : ReturnContent) :
    (r.arbitrate c).noticeMask = r.noticeMask := by
  unfold ReturnLink.arbitrate
  split; rfl; split; rfl; split; rfl; split <;> rfl

/-- The arbiter only takes replies away, from the head. -/
theorem ReturnLink.arbitrate_replies_length (r : ReturnLink) (c : ReturnContent) :
    (r.arbitrate c).replies.length ≤ r.replies.length := by
  unfold ReturnLink.arbitrate
  split
  · exact le_refl _
  · split
    · exact le_refl _
    · split
      · rename_i h; simp [ReturnLink.begin_, h]
      · split <;> rename_i h _ <;> simp [ReturnLink.begin_]

/-- The arbiter only takes notices away, from the head. -/
theorem ReturnLink.arbitrate_notices_length (r : ReturnLink) (c : ReturnContent) :
    (r.arbitrate c).notices.length ≤ r.notices.length := by
  unfold ReturnLink.arbitrate
  split
  · exact le_refl _
  · split
    · exact le_refl _
    · split
      · exact le_refl _
      · split
        · rename_i h; simp [ReturnLink.begin_, h]
        · exact le_refl _

/-- A reply queued while a shard is on the link joins the tail (10 R155). -/
theorem State.queueReply_busy (s : State) (p : Reply) (h : s.ret.onLink.isSome = true) :
    s.queueReply p = { s with ret := { s.ret with replies := s.ret.replies ++ [p] } } := by
  exact congrArg (fun r => { s with ret := r }) 
    (ReturnLink.arbitrate_busy { s.ret with replies := s.ret.replies ++ [p] } s.store.congestionContent h)

/-- A reply queued on an IDLE link on which nothing waits begins at once (10 R152). -/
theorem State.queueReply_idle (s : State) (p : Reply) (h : s.ret.onLink = none) (hr : s.ret.replies = [])
    (hc : s.ret.congestionPending = false) :
    s.queueReply p = { s with ret := { s.ret with
      fullRestartHold := false, onLink := some ⟨s.ret.sequence, .reply p⟩, sequence := s.ret.sequence + 1 } } := by
  have e := ReturnLink.arbitrate_reply { s.ret with replies := s.ret.replies ++ [p] } s.store.congestionContent p [] h
    (by simp [hc]) (by simp [hr])
  refine (congrArg (fun r => { s with ret := r }) e).trans ?_
  simp [hr]

/-- A masked notice leaves no trace (10 R156). -/
theorem State.raise_masked (s : State) (kind : NoticeKind) (t : Option ThreadId) (g : Option Tag) (n : Option LaneId)
    (c : Option (BitVec 16)) (h : s.ret.noticeMask.getLsbD kind.code = false) : s.raise kind t g n c = s := by
  simp [State.raise, h]

/-- A raised notice leaves the reply queue no longer than it was. -/
theorem State.raise_replies_length (s : State) (kind : NoticeKind) (t : Option ThreadId) (g : Option Tag)
    (n : Option LaneId) (c : Option (BitVec 16)) :
    (s.raise kind t g n c).ret.replies.length ≤ s.ret.replies.length := by
  unfold State.raise
  split
  · exact le_refl _
  · split
    · exact le_refl _
    · exact ReturnLink.arbitrate_replies_length _ _

@[simp] theorem State.raise_noticeMask (s : State) (kind : NoticeKind) (t : Option ThreadId) (g : Option Tag)
    (n : Option LaneId) (c : Option (BitVec 16)) : (s.raise kind t g n c).ret.noticeMask = s.ret.noticeMask := by
  unfold State.raise
  split; rfl; split; rfl
  exact ReturnLink.arbitrate_noticeMask _ _

end Sys2Proof.Machine
end

