-- ==== Sys2Proof/Laws/Store.lean ====
section
/-! SUPPORT. The Parcel Store: what claims, returns and judgements leave unchanged, and what each does. -/

namespace Sys2Proof.Machine

/-! ## What the operations leave unchanged -/

/-! ### `changeCongestion` -/

@[simp] theorem State.changeCongestion_pending (s : State) (c : ClassId) (b : Bool) : (s.changeCongestion c b).pending = s.pending := by
  simp [State.changeCongestion]
@[simp] theorem State.changeCongestion_resetn (s : State) (c : ClassId) (b : Bool) : (s.changeCongestion c b).resetn = s.resetn := by
  simp [State.changeCongestion]
@[simp] theorem State.changeCongestion_building (s : State) (c : ClassId) (b : Bool) : (s.changeCongestion c b).building = s.building := by
  simp [State.changeCongestion]
@[simp] theorem State.changeCongestion_mode (s : State) (c : ClassId) (b : Bool) : (s.changeCongestion c b).mode = s.mode := by
  simp [State.changeCongestion]
@[simp] theorem State.changeCongestion_slotReports (s : State) (c : ClassId) (b : Bool) : (s.changeCongestion c b).slotReports = s.slotReports := by
  simp [State.changeCongestion]
@[simp] theorem State.changeCongestion_controller (s : State) (c : ClassId) (b : Bool) : (s.changeCongestion c b).controller = s.controller := by
  simp [State.changeCongestion]
@[simp] theorem State.changeCongestion_threads (s : State) (c : ClassId) (b : Bool) : (s.changeCongestion c b).threads = s.threads := by
  simp [State.changeCongestion]
@[simp] theorem State.changeCongestion_slots (s : State) (c : ClassId) (b : Bool) : (s.changeCongestion c b).slots = s.slots := by
  simp [State.changeCongestion]
@[simp] theorem State.changeCongestion_aging (s : State) (c : ClassId) (b : Bool) : (s.changeCongestion c b).aging = s.aging := by
  simp [State.changeCongestion]
@[simp] theorem State.changeCongestion_lanes (s : State) (c : ClassId) (b : Bool) : (s.changeCongestion c b).lanes = s.lanes := by
  simp [State.changeCongestion]
@[simp] theorem State.changeCongestion_engine (s : State) (c : ClassId) (b : Bool) : (s.changeCongestion c b).engine = s.engine := by
  simp [State.changeCongestion]
@[simp] theorem State.changeCongestion_orphanTally (s : State) (c : ClassId) (b : Bool) : (s.changeCongestion c b).orphanTally = s.orphanTally := by
  simp [State.changeCongestion]
@[simp] theorem State.changeCongestion_freeIndex (s : State) (c : ClassId) (b : Bool) : (s.changeCongestion c b).freeIndex = s.freeIndex := by
  simp [State.changeCongestion]
@[simp] theorem State.changeCongestion_octets (s : State) (c : ClassId) (b : Bool) : (s.changeCongestion c b).store.octets = s.store.octets := by
  simp [State.changeCongestion]
@[simp] theorem State.changeCongestion_unitClass (s : State) (c : ClassId) (b : Bool) : (s.changeCongestion c b).store.unitClass = s.store.unitClass := by
  simp [State.changeCongestion]
@[simp] theorem State.changeCongestion_freeList (s : State) (c : ClassId) (b : Bool) : (s.changeCongestion c b).store.freeList = s.store.freeList := by
  simp [State.changeCongestion]
@[simp] theorem State.changeCongestion_hysteresis (s : State) (c : ClassId) (b : Bool) : (s.changeCongestion c b).store.hysteresis = s.store.hysteresis := by
  simp [State.changeCongestion]
@[simp] theorem State.slot_changeCongestion (s : State) (c : ClassId) (b : Bool) (x : SlotId) : (s.changeCongestion c b).slot x = s.slot x :=
  State.slot_congr _ _ _ (State.changeCongestion_slots s c b)
@[simp] theorem State.thread_changeCongestion (s : State) (c : ClassId) (b : Bool) (x : ThreadId) : (s.changeCongestion c b).thread x = s.thread x :=
  State.thread_congr _ _ _ (State.changeCongestion_threads s c b)
@[simp] theorem State.lane_changeCongestion (s : State) (c : ClassId) (b : Bool) (x : LaneId) : (s.changeCongestion c b).lane x = s.lane x :=
  State.lane_congr _ _ _ (State.changeCongestion_lanes s c b)
/-! ### `judgeRise` -/

@[simp] theorem State.judgeRise_pending (s : State) (c : ClassId) : (s.judgeRise c).pending = s.pending := by
  unfold State.judgeRise; split <;> simp
@[simp] theorem State.judgeRise_resetn (s : State) (c : ClassId) : (s.judgeRise c).resetn = s.resetn := by
  unfold State.judgeRise; split <;> simp
@[simp] theorem State.judgeRise_building (s : State) (c : ClassId) : (s.judgeRise c).building = s.building := by
  unfold State.judgeRise; split <;> simp
@[simp] theorem State.judgeRise_mode (s : State) (c : ClassId) : (s.judgeRise c).mode = s.mode := by
  unfold State.judgeRise; split <;> simp
@[simp] theorem State.judgeRise_slotReports (s : State) (c : ClassId) : (s.judgeRise c).slotReports = s.slotReports := by
  unfold State.judgeRise; split <;> simp
@[simp] theorem State.judgeRise_controller (s : State) (c : ClassId) : (s.judgeRise c).controller = s.controller := by
  unfold State.judgeRise; split <;> simp
@[simp] theorem State.judgeRise_threads (s : State) (c : ClassId) : (s.judgeRise c).threads = s.threads := by
  unfold State.judgeRise; split <;> simp
@[simp] theorem State.judgeRise_slots (s : State) (c : ClassId) : (s.judgeRise c).slots = s.slots := by
  unfold State.judgeRise; split <;> simp
@[simp] theorem State.judgeRise_aging (s : State) (c : ClassId) : (s.judgeRise c).aging = s.aging := by
  unfold State.judgeRise; split <;> simp
@[simp] theorem State.judgeRise_lanes (s : State) (c : ClassId) : (s.judgeRise c).lanes = s.lanes := by
  unfold State.judgeRise; split <;> simp
@[simp] theorem State.judgeRise_engine (s : State) (c : ClassId) : (s.judgeRise c).engine = s.engine := by
  unfold State.judgeRise; split <;> simp
@[simp] theorem State.judgeRise_orphanTally (s : State) (c : ClassId) : (s.judgeRise c).orphanTally = s.orphanTally := by
  unfold State.judgeRise; split <;> simp
@[simp] theorem State.judgeRise_freeIndex (s : State) (c : ClassId) : (s.judgeRise c).freeIndex = s.freeIndex := by
  unfold State.judgeRise; split <;> simp
@[simp] theorem State.judgeRise_octets (s : State) (c : ClassId) : (s.judgeRise c).store.octets = s.store.octets := by
  unfold State.judgeRise; split <;> simp
@[simp] theorem State.judgeRise_unitClass (s : State) (c : ClassId) : (s.judgeRise c).store.unitClass = s.store.unitClass := by
  unfold State.judgeRise; split <;> simp
@[simp] theorem State.judgeRise_freeList (s : State) (c : ClassId) : (s.judgeRise c).store.freeList = s.store.freeList := by
  unfold State.judgeRise; split <;> simp
@[simp] theorem State.judgeRise_hysteresis (s : State) (c : ClassId) : (s.judgeRise c).store.hysteresis = s.store.hysteresis := by
  unfold State.judgeRise; split <;> simp
@[simp] theorem State.slot_judgeRise (s : State) (c : ClassId) (x : SlotId) : (s.judgeRise c).slot x = s.slot x :=
  State.slot_congr _ _ _ (State.judgeRise_slots s c)
@[simp] theorem State.thread_judgeRise (s : State) (c : ClassId) (x : ThreadId) : (s.judgeRise c).thread x = s.thread x :=
  State.thread_congr _ _ _ (State.judgeRise_threads s c)
@[simp] theorem State.lane_judgeRise (s : State) (c : ClassId) (x : LaneId) : (s.judgeRise c).lane x = s.lane x :=
  State.lane_congr _ _ _ (State.judgeRise_lanes s c)
/-! ### `judgeFall` -/

@[simp] theorem State.judgeFall_pending (s : State) (c : ClassId) : (s.judgeFall c).pending = s.pending := by
  unfold State.judgeFall; split <;> simp
@[simp] theorem State.judgeFall_resetn (s : State) (c : ClassId) : (s.judgeFall c).resetn = s.resetn := by
  unfold State.judgeFall; split <;> simp
@[simp] theorem State.judgeFall_building (s : State) (c : ClassId) : (s.judgeFall c).building = s.building := by
  unfold State.judgeFall; split <;> simp
@[simp] theorem State.judgeFall_mode (s : State) (c : ClassId) : (s.judgeFall c).mode = s.mode := by
  unfold State.judgeFall; split <;> simp
@[simp] theorem State.judgeFall_slotReports (s : State) (c : ClassId) : (s.judgeFall c).slotReports = s.slotReports := by
  unfold State.judgeFall; split <;> simp
@[simp] theorem State.judgeFall_controller (s : State) (c : ClassId) : (s.judgeFall c).controller = s.controller := by
  unfold State.judgeFall; split <;> simp
@[simp] theorem State.judgeFall_threads (s : State) (c : ClassId) : (s.judgeFall c).threads = s.threads := by
  unfold State.judgeFall; split <;> simp
@[simp] theorem State.judgeFall_slots (s : State) (c : ClassId) : (s.judgeFall c).slots = s.slots := by
  unfold State.judgeFall; split <;> simp
@[simp] theorem State.judgeFall_aging (s : State) (c : ClassId) : (s.judgeFall c).aging = s.aging := by
  unfold State.judgeFall; split <;> simp
@[simp] theorem State.judgeFall_lanes (s : State) (c : ClassId) : (s.judgeFall c).lanes = s.lanes := by
  unfold State.judgeFall; split <;> simp
@[simp] theorem State.judgeFall_engine (s : State) (c : ClassId) : (s.judgeFall c).engine = s.engine := by
  unfold State.judgeFall; split <;> simp
@[simp] theorem State.judgeFall_orphanTally (s : State) (c : ClassId) : (s.judgeFall c).orphanTally = s.orphanTally := by
  unfold State.judgeFall; split <;> simp
@[simp] theorem State.judgeFall_freeIndex (s : State) (c : ClassId) : (s.judgeFall c).freeIndex = s.freeIndex := by
  unfold State.judgeFall; split <;> simp
@[simp] theorem State.judgeFall_octets (s : State) (c : ClassId) : (s.judgeFall c).store.octets = s.store.octets := by
  unfold State.judgeFall; split <;> simp
@[simp] theorem State.judgeFall_unitClass (s : State) (c : ClassId) : (s.judgeFall c).store.unitClass = s.store.unitClass := by
  unfold State.judgeFall; split <;> simp
@[simp] theorem State.judgeFall_freeList (s : State) (c : ClassId) : (s.judgeFall c).store.freeList = s.store.freeList := by
  unfold State.judgeFall; split <;> simp
@[simp] theorem State.judgeFall_hysteresis (s : State) (c : ClassId) : (s.judgeFall c).store.hysteresis = s.store.hysteresis := by
  unfold State.judgeFall; split <;> simp
@[simp] theorem State.slot_judgeFall (s : State) (c : ClassId) (x : SlotId) : (s.judgeFall c).slot x = s.slot x :=
  State.slot_congr _ _ _ (State.judgeFall_slots s c)
@[simp] theorem State.thread_judgeFall (s : State) (c : ClassId) (x : ThreadId) : (s.judgeFall c).thread x = s.thread x :=
  State.thread_congr _ _ _ (State.judgeFall_threads s c)
@[simp] theorem State.lane_judgeFall (s : State) (c : ClassId) (x : LaneId) : (s.judgeFall c).lane x = s.lane x :=
  State.lane_congr _ _ _ (State.judgeFall_lanes s c)
/-! ### `rejudge` -/

@[simp] theorem State.rejudge_pending (s : State) (c : ClassId) : (s.rejudge c).pending = s.pending := by
  unfold State.rejudge; split <;> simp
@[simp] theorem State.rejudge_resetn (s : State) (c : ClassId) : (s.rejudge c).resetn = s.resetn := by
  unfold State.rejudge; split <;> simp
@[simp] theorem State.rejudge_building (s : State) (c : ClassId) : (s.rejudge c).building = s.building := by
  unfold State.rejudge; split <;> simp
@[simp] theorem State.rejudge_mode (s : State) (c : ClassId) : (s.rejudge c).mode = s.mode := by
  unfold State.rejudge; split <;> simp
@[simp] theorem State.rejudge_slotReports (s : State) (c : ClassId) : (s.rejudge c).slotReports = s.slotReports := by
  unfold State.rejudge; split <;> simp
@[simp] theorem State.rejudge_controller (s : State) (c : ClassId) : (s.rejudge c).controller = s.controller := by
  unfold State.rejudge; split <;> simp
@[simp] theorem State.rejudge_threads (s : State) (c : ClassId) : (s.rejudge c).threads = s.threads := by
  unfold State.rejudge; split <;> simp
@[simp] theorem State.rejudge_slots (s : State) (c : ClassId) : (s.rejudge c).slots = s.slots := by
  unfold State.rejudge; split <;> simp
@[simp] theorem State.rejudge_aging (s : State) (c : ClassId) : (s.rejudge c).aging = s.aging := by
  unfold State.rejudge; split <;> simp
@[simp] theorem State.rejudge_lanes (s : State) (c : ClassId) : (s.rejudge c).lanes = s.lanes := by
  unfold State.rejudge; split <;> simp
@[simp] theorem State.rejudge_engine (s : State) (c : ClassId) : (s.rejudge c).engine = s.engine := by
  unfold State.rejudge; split <;> simp
@[simp] theorem State.rejudge_orphanTally (s : State) (c : ClassId) : (s.rejudge c).orphanTally = s.orphanTally := by
  unfold State.rejudge; split <;> simp
@[simp] theorem State.rejudge_freeIndex (s : State) (c : ClassId) : (s.rejudge c).freeIndex = s.freeIndex := by
  unfold State.rejudge; split <;> simp
@[simp] theorem State.rejudge_octets (s : State) (c : ClassId) : (s.rejudge c).store.octets = s.store.octets := by
  unfold State.rejudge; split <;> simp
@[simp] theorem State.rejudge_unitClass (s : State) (c : ClassId) : (s.rejudge c).store.unitClass = s.store.unitClass := by
  unfold State.rejudge; split <;> simp
@[simp] theorem State.rejudge_freeList (s : State) (c : ClassId) : (s.rejudge c).store.freeList = s.store.freeList := by
  unfold State.rejudge; split <;> simp
@[simp] theorem State.rejudge_hysteresis (s : State) (c : ClassId) : (s.rejudge c).store.hysteresis = s.store.hysteresis := by
  unfold State.rejudge; split <;> simp
@[simp] theorem State.slot_rejudge (s : State) (c : ClassId) (x : SlotId) : (s.rejudge c).slot x = s.slot x :=
  State.slot_congr _ _ _ (State.rejudge_slots s c)
@[simp] theorem State.thread_rejudge (s : State) (c : ClassId) (x : ThreadId) : (s.rejudge c).thread x = s.thread x :=
  State.thread_congr _ _ _ (State.rejudge_threads s c)
@[simp] theorem State.lane_rejudge (s : State) (c : ClassId) (x : LaneId) : (s.rejudge c).lane x = s.lane x :=
  State.lane_congr _ _ _ (State.rejudge_lanes s c)
/-! ### `settleClass` -/

@[simp] theorem State.settleClass_pending (s : State) (c : ClassId) : (s.settleClass c).pending = s.pending := by
  unfold State.settleClass; split <;> simp
@[simp] theorem State.settleClass_resetn (s : State) (c : ClassId) : (s.settleClass c).resetn = s.resetn := by
  unfold State.settleClass; split <;> simp
@[simp] theorem State.settleClass_building (s : State) (c : ClassId) : (s.settleClass c).building = s.building := by
  unfold State.settleClass; split <;> simp
@[simp] theorem State.settleClass_mode (s : State) (c : ClassId) : (s.settleClass c).mode = s.mode := by
  unfold State.settleClass; split <;> simp
@[simp] theorem State.settleClass_slotReports (s : State) (c : ClassId) : (s.settleClass c).slotReports = s.slotReports := by
  unfold State.settleClass; split <;> simp
@[simp] theorem State.settleClass_controller (s : State) (c : ClassId) : (s.settleClass c).controller = s.controller := by
  unfold State.settleClass; split <;> simp
@[simp] theorem State.settleClass_threads (s : State) (c : ClassId) : (s.settleClass c).threads = s.threads := by
  unfold State.settleClass; split <;> simp
@[simp] theorem State.settleClass_slots (s : State) (c : ClassId) : (s.settleClass c).slots = s.slots := by
  unfold State.settleClass; split <;> simp
@[simp] theorem State.settleClass_aging (s : State) (c : ClassId) : (s.settleClass c).aging = s.aging := by
  unfold State.settleClass; split <;> simp
@[simp] theorem State.settleClass_lanes (s : State) (c : ClassId) : (s.settleClass c).lanes = s.lanes := by
  unfold State.settleClass; split <;> simp
@[simp] theorem State.settleClass_engine (s : State) (c : ClassId) : (s.settleClass c).engine = s.engine := by
  unfold State.settleClass; split <;> simp
@[simp] theorem State.settleClass_orphanTally (s : State) (c : ClassId) : (s.settleClass c).orphanTally = s.orphanTally := by
  unfold State.settleClass; split <;> simp
@[simp] theorem State.settleClass_freeIndex (s : State) (c : ClassId) : (s.settleClass c).freeIndex = s.freeIndex := by
  unfold State.settleClass; split <;> simp
@[simp] theorem State.settleClass_octets (s : State) (c : ClassId) : (s.settleClass c).store.octets = s.store.octets := by
  unfold State.settleClass; split <;> simp
@[simp] theorem State.settleClass_unitClass (s : State) (c : ClassId) : (s.settleClass c).store.unitClass = s.store.unitClass := by
  unfold State.settleClass; split <;> simp
@[simp] theorem State.settleClass_freeList (s : State) (c : ClassId) : (s.settleClass c).store.freeList = s.store.freeList := by
  unfold State.settleClass; split <;> simp
@[simp] theorem State.settleClass_hysteresis (s : State) (c : ClassId) : (s.settleClass c).store.hysteresis = s.store.hysteresis := by
  unfold State.settleClass; split <;> simp
@[simp] theorem State.slot_settleClass (s : State) (c : ClassId) (x : SlotId) : (s.settleClass c).slot x = s.slot x :=
  State.slot_congr _ _ _ (State.settleClass_slots s c)
@[simp] theorem State.thread_settleClass (s : State) (c : ClassId) (x : ThreadId) : (s.settleClass c).thread x = s.thread x :=
  State.thread_congr _ _ _ (State.settleClass_threads s c)
@[simp] theorem State.lane_settleClass (s : State) (c : ClassId) (x : LaneId) : (s.settleClass c).lane x = s.lane x :=
  State.lane_congr _ _ _ (State.settleClass_lanes s c)
/-! ### `settleReturns` -/

@[simp] theorem State.settleReturns_pending (s : State) : s.settleReturns.pending = s.pending := by
  simp [State.settleReturns, classIds]
@[simp] theorem State.settleReturns_resetn (s : State) : s.settleReturns.resetn = s.resetn := by
  simp [State.settleReturns, classIds]
@[simp] theorem State.settleReturns_building (s : State) : s.settleReturns.building = s.building := by
  simp [State.settleReturns, classIds]
@[simp] theorem State.settleReturns_mode (s : State) : s.settleReturns.mode = s.mode := by
  simp [State.settleReturns, classIds]
@[simp] theorem State.settleReturns_slotReports (s : State) : s.settleReturns.slotReports = s.slotReports := by
  simp [State.settleReturns, classIds]
@[simp] theorem State.settleReturns_controller (s : State) : s.settleReturns.controller = s.controller := by
  simp [State.settleReturns, classIds]
@[simp] theorem State.settleReturns_threads (s : State) : s.settleReturns.threads = s.threads := by
  simp [State.settleReturns, classIds]
@[simp] theorem State.settleReturns_slots (s : State) : s.settleReturns.slots = s.slots := by
  simp [State.settleReturns, classIds]
@[simp] theorem State.settleReturns_aging (s : State) : s.settleReturns.aging = s.aging := by
  simp [State.settleReturns, classIds]
@[simp] theorem State.settleReturns_lanes (s : State) : s.settleReturns.lanes = s.lanes := by
  simp [State.settleReturns, classIds]
@[simp] theorem State.settleReturns_engine (s : State) : s.settleReturns.engine = s.engine := by
  simp [State.settleReturns, classIds]
@[simp] theorem State.settleReturns_orphanTally (s : State) : s.settleReturns.orphanTally = s.orphanTally := by
  simp [State.settleReturns, classIds]
@[simp] theorem State.settleReturns_freeIndex (s : State) : s.settleReturns.freeIndex = s.freeIndex := by
  simp [State.settleReturns, classIds]
@[simp] theorem State.settleReturns_octets (s : State) : s.settleReturns.store.octets = s.store.octets := by
  simp [State.settleReturns, classIds]
@[simp] theorem State.settleReturns_unitClass (s : State) : s.settleReturns.store.unitClass = s.store.unitClass := by
  simp [State.settleReturns, classIds]
@[simp] theorem State.settleReturns_freeList (s : State) : s.settleReturns.store.freeList = s.store.freeList := by
  simp [State.settleReturns, classIds]
@[simp] theorem State.settleReturns_hysteresis (s : State) : s.settleReturns.store.hysteresis = s.store.hysteresis := by
  simp [State.settleReturns, classIds]
@[simp] theorem State.slot_settleReturns (s : State) (x : SlotId) : s.settleReturns.slot x = s.slot x :=
  State.slot_congr _ _ _ (State.settleReturns_slots s)
@[simp] theorem State.thread_settleReturns (s : State) (x : ThreadId) : s.settleReturns.thread x = s.thread x :=
  State.thread_congr _ _ _ (State.settleReturns_threads s)
@[simp] theorem State.lane_settleReturns (s : State) (x : LaneId) : s.settleReturns.lane x = s.lane x :=
  State.lane_congr _ _ _ (State.settleReturns_lanes s)
/-! ### `clearAtRebuild` -/

@[simp] theorem State.clearAtRebuild_pending (s : State) (c : ClassId) : (s.clearAtRebuild c).pending = s.pending := by
  unfold State.clearAtRebuild; split <;> simp
@[simp] theorem State.clearAtRebuild_resetn (s : State) (c : ClassId) : (s.clearAtRebuild c).resetn = s.resetn := by
  unfold State.clearAtRebuild; split <;> simp
@[simp] theorem State.clearAtRebuild_building (s : State) (c : ClassId) : (s.clearAtRebuild c).building = s.building := by
  unfold State.clearAtRebuild; split <;> simp
@[simp] theorem State.clearAtRebuild_mode (s : State) (c : ClassId) : (s.clearAtRebuild c).mode = s.mode := by
  unfold State.clearAtRebuild; split <;> simp
@[simp] theorem State.clearAtRebuild_slotReports (s : State) (c : ClassId) : (s.clearAtRebuild c).slotReports = s.slotReports := by
  unfold State.clearAtRebuild; split <;> simp
@[simp] theorem State.clearAtRebuild_controller (s : State) (c : ClassId) : (s.clearAtRebuild c).controller = s.controller := by
  unfold State.clearAtRebuild; split <;> simp
@[simp] theorem State.clearAtRebuild_threads (s : State) (c : ClassId) : (s.clearAtRebuild c).threads = s.threads := by
  unfold State.clearAtRebuild; split <;> simp
@[simp] theorem State.clearAtRebuild_slots (s : State) (c : ClassId) : (s.clearAtRebuild c).slots = s.slots := by
  unfold State.clearAtRebuild; split <;> simp
@[simp] theorem State.clearAtRebuild_aging (s : State) (c : ClassId) : (s.clearAtRebuild c).aging = s.aging := by
  unfold State.clearAtRebuild; split <;> simp
@[simp] theorem State.clearAtRebuild_lanes (s : State) (c : ClassId) : (s.clearAtRebuild c).lanes = s.lanes := by
  unfold State.clearAtRebuild; split <;> simp
@[simp] theorem State.clearAtRebuild_engine (s : State) (c : ClassId) : (s.clearAtRebuild c).engine = s.engine := by
  unfold State.clearAtRebuild; split <;> simp
@[simp] theorem State.clearAtRebuild_orphanTally (s : State) (c : ClassId) : (s.clearAtRebuild c).orphanTally = s.orphanTally := by
  unfold State.clearAtRebuild; split <;> simp
@[simp] theorem State.clearAtRebuild_freeIndex (s : State) (c : ClassId) : (s.clearAtRebuild c).freeIndex = s.freeIndex := by
  unfold State.clearAtRebuild; split <;> simp
@[simp] theorem State.clearAtRebuild_octets (s : State) (c : ClassId) : (s.clearAtRebuild c).store.octets = s.store.octets := by
  unfold State.clearAtRebuild; split <;> simp
@[simp] theorem State.clearAtRebuild_unitClass (s : State) (c : ClassId) : (s.clearAtRebuild c).store.unitClass = s.store.unitClass := by
  unfold State.clearAtRebuild; split <;> simp
@[simp] theorem State.clearAtRebuild_freeList (s : State) (c : ClassId) : (s.clearAtRebuild c).store.freeList = s.store.freeList := by
  unfold State.clearAtRebuild; split <;> simp
@[simp] theorem State.clearAtRebuild_hysteresis (s : State) (c : ClassId) : (s.clearAtRebuild c).store.hysteresis = s.store.hysteresis := by
  unfold State.clearAtRebuild; split <;> simp
@[simp] theorem State.slot_clearAtRebuild (s : State) (c : ClassId) (x : SlotId) : (s.clearAtRebuild c).slot x = s.slot x :=
  State.slot_congr _ _ _ (State.clearAtRebuild_slots s c)
@[simp] theorem State.thread_clearAtRebuild (s : State) (c : ClassId) (x : ThreadId) : (s.clearAtRebuild c).thread x = s.thread x :=
  State.thread_congr _ _ _ (State.clearAtRebuild_threads s c)
@[simp] theorem State.lane_clearAtRebuild (s : State) (c : ClassId) (x : LaneId) : (s.clearAtRebuild c).lane x = s.lane x :=
  State.lane_congr _ _ _ (State.clearAtRebuild_lanes s c)
/-! ### `rebuildStore` -/

@[simp] theorem State.rebuildStore_pending (s : State) : s.rebuildStore.pending = s.pending := by
  simp [State.rebuildStore, classIds]
@[simp] theorem State.rebuildStore_resetn (s : State) : s.rebuildStore.resetn = s.resetn := by
  simp [State.rebuildStore, classIds]
@[simp] theorem State.rebuildStore_building (s : State) : s.rebuildStore.building = s.building := by
  simp [State.rebuildStore, classIds]
@[simp] theorem State.rebuildStore_mode (s : State) : s.rebuildStore.mode = s.mode := by
  simp [State.rebuildStore, classIds]
@[simp] theorem State.rebuildStore_slotReports (s : State) : s.rebuildStore.slotReports = s.slotReports := by
  simp [State.rebuildStore, classIds]
@[simp] theorem State.rebuildStore_controller (s : State) : s.rebuildStore.controller = s.controller := by
  simp [State.rebuildStore, classIds]
@[simp] theorem State.rebuildStore_threads (s : State) : s.rebuildStore.threads = s.threads := by
  simp [State.rebuildStore, classIds]
@[simp] theorem State.rebuildStore_slots (s : State) : s.rebuildStore.slots = s.slots := by
  simp [State.rebuildStore, classIds]
@[simp] theorem State.rebuildStore_aging (s : State) : s.rebuildStore.aging = s.aging := by
  simp [State.rebuildStore, classIds]
@[simp] theorem State.rebuildStore_lanes (s : State) : s.rebuildStore.lanes = s.lanes := by
  simp [State.rebuildStore, classIds]
@[simp] theorem State.rebuildStore_engine (s : State) : s.rebuildStore.engine = s.engine := by
  simp [State.rebuildStore, classIds]
@[simp] theorem State.rebuildStore_orphanTally (s : State) : s.rebuildStore.orphanTally = s.orphanTally := by
  simp [State.rebuildStore, classIds]
@[simp] theorem State.rebuildStore_freeIndex (s : State) : s.rebuildStore.freeIndex = s.freeIndex := by
  simp [State.rebuildStore, classIds]
@[simp] theorem State.rebuildStore_octets (s : State) : s.rebuildStore.store.octets = s.store.octets := by
  simp [State.rebuildStore, classIds]
@[simp] theorem State.rebuildStore_hysteresis (s : State) : s.rebuildStore.store.hysteresis = s.store.hysteresis := by
  simp [State.rebuildStore, classIds]
@[simp] theorem State.slot_rebuildStore (s : State) (x : SlotId) : s.rebuildStore.slot x = s.slot x :=
  State.slot_congr _ _ _ (State.rebuildStore_slots s)
@[simp] theorem State.thread_rebuildStore (s : State) (x : ThreadId) : s.rebuildStore.thread x = s.thread x :=
  State.thread_congr _ _ _ (State.rebuildStore_threads s)
@[simp] theorem State.lane_rebuildStore (s : State) (x : LaneId) : s.rebuildStore.lane x = s.lane x :=
  State.lane_congr _ _ _ (State.rebuildStore_lanes s)
/-! ### `takeUnit` -/

@[simp] theorem State.takeUnit_pending (s : State) (c : ClassId) (p : List Byte) (u : UnitNo) (r : List UnitNo) : (s.takeUnit c p u r).pending = s.pending := rfl
@[simp] theorem State.takeUnit_resetn (s : State) (c : ClassId) (p : List Byte) (u : UnitNo) (r : List UnitNo) : (s.takeUnit c p u r).resetn = s.resetn := rfl
@[simp] theorem State.takeUnit_building (s : State) (c : ClassId) (p : List Byte) (u : UnitNo) (r : List UnitNo) : (s.takeUnit c p u r).building = s.building := rfl
@[simp] theorem State.takeUnit_mode (s : State) (c : ClassId) (p : List Byte) (u : UnitNo) (r : List UnitNo) : (s.takeUnit c p u r).mode = s.mode := rfl
@[simp] theorem State.takeUnit_slotReports (s : State) (c : ClassId) (p : List Byte) (u : UnitNo) (r : List UnitNo) : (s.takeUnit c p u r).slotReports = s.slotReports := rfl
@[simp] theorem State.takeUnit_controller (s : State) (c : ClassId) (p : List Byte) (u : UnitNo) (r : List UnitNo) : (s.takeUnit c p u r).controller = s.controller := rfl
@[simp] theorem State.takeUnit_threads (s : State) (c : ClassId) (p : List Byte) (u : UnitNo) (r : List UnitNo) : (s.takeUnit c p u r).threads = s.threads := rfl
@[simp] theorem State.takeUnit_slots (s : State) (c : ClassId) (p : List Byte) (u : UnitNo) (r : List UnitNo) : (s.takeUnit c p u r).slots = s.slots := rfl
@[simp] theorem State.takeUnit_aging (s : State) (c : ClassId) (p : List Byte) (u : UnitNo) (r : List UnitNo) : (s.takeUnit c p u r).aging = s.aging := rfl
@[simp] theorem State.takeUnit_lanes (s : State) (c : ClassId) (p : List Byte) (u : UnitNo) (r : List UnitNo) : (s.takeUnit c p u r).lanes = s.lanes := rfl
@[simp] theorem State.takeUnit_engine (s : State) (c : ClassId) (p : List Byte) (u : UnitNo) (r : List UnitNo) : (s.takeUnit c p u r).engine = s.engine := rfl
@[simp] theorem State.takeUnit_ret (s : State) (c : ClassId) (p : List Byte) (u : UnitNo) (r : List UnitNo) : (s.takeUnit c p u r).ret = s.ret := rfl
@[simp] theorem State.takeUnit_counters (s : State) (c : ClassId) (p : List Byte) (u : UnitNo) (r : List UnitNo) : (s.takeUnit c p u r).counters = s.counters := rfl
@[simp] theorem State.takeUnit_orphanTally (s : State) (c : ClassId) (p : List Byte) (u : UnitNo) (r : List UnitNo) : (s.takeUnit c p u r).orphanTally = s.orphanTally := rfl
@[simp] theorem State.takeUnit_freeIndex (s : State) (c : ClassId) (p : List Byte) (u : UnitNo) (r : List UnitNo) : (s.takeUnit c p u r).freeIndex = s.freeIndex := rfl
@[simp] theorem State.takeUnit_hysteresis (s : State) (c : ClassId) (p : List Byte) (u : UnitNo) (r : List UnitNo) : (s.takeUnit c p u r).store.hysteresis = s.store.hysteresis := rfl
@[simp] theorem State.slot_takeUnit (s : State) (c : ClassId) (p : List Byte) (u : UnitNo) (r : List UnitNo) (x : SlotId) : (s.takeUnit c p u r).slot x = s.slot x :=
  State.slot_congr _ _ _ (State.takeUnit_slots s c p u r)
@[simp] theorem State.thread_takeUnit (s : State) (c : ClassId) (p : List Byte) (u : UnitNo) (r : List UnitNo) (x : ThreadId) : (s.takeUnit c p u r).thread x = s.thread x :=
  State.thread_congr _ _ _ (State.takeUnit_threads s c p u r)
@[simp] theorem State.lane_takeUnit (s : State) (c : ClassId) (p : List Byte) (u : UnitNo) (r : List UnitNo) (x : LaneId) : (s.takeUnit c p u r).lane x = s.lane x :=
  State.lane_congr _ _ _ (State.takeUnit_lanes s c p u r)
/-! ### `uncountUnit` -/

@[simp] theorem State.uncountUnit_pending (s : State) (u : UnitNo) : (s.uncountUnit u).pending = s.pending := by
  unfold State.uncountUnit; split <;> rfl
@[simp] theorem State.uncountUnit_resetn (s : State) (u : UnitNo) : (s.uncountUnit u).resetn = s.resetn := by
  unfold State.uncountUnit; split <;> rfl
@[simp] theorem State.uncountUnit_building (s : State) (u : UnitNo) : (s.uncountUnit u).building = s.building := by
  unfold State.uncountUnit; split <;> rfl
@[simp] theorem State.uncountUnit_mode (s : State) (u : UnitNo) : (s.uncountUnit u).mode = s.mode := by
  unfold State.uncountUnit; split <;> rfl
@[simp] theorem State.uncountUnit_slotReports (s : State) (u : UnitNo) : (s.uncountUnit u).slotReports = s.slotReports := by
  unfold State.uncountUnit; split <;> rfl
@[simp] theorem State.uncountUnit_controller (s : State) (u : UnitNo) : (s.uncountUnit u).controller = s.controller := by
  unfold State.uncountUnit; split <;> rfl
@[simp] theorem State.uncountUnit_threads (s : State) (u : UnitNo) : (s.uncountUnit u).threads = s.threads := by
  unfold State.uncountUnit; split <;> rfl
@[simp] theorem State.uncountUnit_slots (s : State) (u : UnitNo) : (s.uncountUnit u).slots = s.slots := by
  unfold State.uncountUnit; split <;> rfl
@[simp] theorem State.uncountUnit_aging (s : State) (u : UnitNo) : (s.uncountUnit u).aging = s.aging := by
  unfold State.uncountUnit; split <;> rfl
@[simp] theorem State.uncountUnit_lanes (s : State) (u : UnitNo) : (s.uncountUnit u).lanes = s.lanes := by
  unfold State.uncountUnit; split <;> rfl
@[simp] theorem State.uncountUnit_engine (s : State) (u : UnitNo) : (s.uncountUnit u).engine = s.engine := by
  unfold State.uncountUnit; split <;> rfl
@[simp] theorem State.uncountUnit_ret (s : State) (u : UnitNo) : (s.uncountUnit u).ret = s.ret := by
  unfold State.uncountUnit; split <;> rfl
@[simp] theorem State.uncountUnit_counters (s : State) (u : UnitNo) : (s.uncountUnit u).counters = s.counters := by
  unfold State.uncountUnit; split <;> rfl
@[simp] theorem State.uncountUnit_orphanTally (s : State) (u : UnitNo) : (s.uncountUnit u).orphanTally = s.orphanTally := by
  unfold State.uncountUnit; split <;> rfl
@[simp] theorem State.uncountUnit_freeIndex (s : State) (u : UnitNo) : (s.uncountUnit u).freeIndex = s.freeIndex := by
  unfold State.uncountUnit; split <;> rfl
@[simp] theorem State.uncountUnit_octets (s : State) (u : UnitNo) : (s.uncountUnit u).store.octets = s.store.octets := by
  unfold State.uncountUnit; split <;> rfl
@[simp] theorem State.uncountUnit_freeList (s : State) (u : UnitNo) : (s.uncountUnit u).store.freeList = s.store.freeList := by
  unfold State.uncountUnit; split <;> rfl
@[simp] theorem State.uncountUnit_hysteresis (s : State) (u : UnitNo) : (s.uncountUnit u).store.hysteresis = s.store.hysteresis := by
  unfold State.uncountUnit; split <;> rfl
@[simp] theorem State.slot_uncountUnit (s : State) (u : UnitNo) (x : SlotId) : (s.uncountUnit u).slot x = s.slot x :=
  State.slot_congr _ _ _ (State.uncountUnit_slots s u)
@[simp] theorem State.thread_uncountUnit (s : State) (u : UnitNo) (x : ThreadId) : (s.uncountUnit u).thread x = s.thread x :=
  State.thread_congr _ _ _ (State.uncountUnit_threads s u)
@[simp] theorem State.lane_uncountUnit (s : State) (u : UnitNo) (x : LaneId) : (s.uncountUnit u).lane x = s.lane x :=
  State.lane_congr _ _ _ (State.uncountUnit_lanes s u)
/-! ### returned chains -/

@[simp] theorem State.foldl_uncountUnit_pending (ch : List UnitNo) (s : State) :
    (ch.foldl State.uncountUnit s).pending = s.pending := by
  induction ch generalizing s with
  | nil => rfl
  | cons u ch ih => rw [List.foldl_cons, ih]; simp

@[simp] theorem State.foldl_uncountUnit_resetn (ch : List UnitNo) (s : State) :
    (ch.foldl State.uncountUnit s).resetn = s.resetn := by
  induction ch generalizing s with
  | nil => rfl
  | cons u ch ih => rw [List.foldl_cons, ih]; simp

@[simp] theorem State.foldl_uncountUnit_building (ch : List UnitNo) (s : State) :
    (ch.foldl State.uncountUnit s).building = s.building := by
  induction ch generalizing s with
  | nil => rfl
  | cons u ch ih => rw [List.foldl_cons, ih]; simp

@[simp] theorem State.foldl_uncountUnit_mode (ch : List UnitNo) (s : State) :
    (ch.foldl State.uncountUnit s).mode = s.mode := by
  induction ch generalizing s with
  | nil => rfl
  | cons u ch ih => rw [List.foldl_cons, ih]; simp

@[simp] theorem State.foldl_uncountUnit_slotReports (ch : List UnitNo) (s : State) :
    (ch.foldl State.uncountUnit s).slotReports = s.slotReports := by
  induction ch generalizing s with
  | nil => rfl
  | cons u ch ih => rw [List.foldl_cons, ih]; simp

@[simp] theorem State.foldl_uncountUnit_controller (ch : List UnitNo) (s : State) :
    (ch.foldl State.uncountUnit s).controller = s.controller := by
  induction ch generalizing s with
  | nil => rfl
  | cons u ch ih => rw [List.foldl_cons, ih]; simp

@[simp] theorem State.foldl_uncountUnit_threads (ch : List UnitNo) (s : State) :
    (ch.foldl State.uncountUnit s).threads = s.threads := by
  induction ch generalizing s with
  | nil => rfl
  | cons u ch ih => rw [List.foldl_cons, ih]; simp

@[simp] theorem State.foldl_uncountUnit_slots (ch : List UnitNo) (s : State) :
    (ch.foldl State.uncountUnit s).slots = s.slots := by
  induction ch generalizing s with
  | nil => rfl
  | cons u ch ih => rw [List.foldl_cons, ih]; simp

@[simp] theorem State.foldl_uncountUnit_aging (ch : List UnitNo) (s : State) :
    (ch.foldl State.uncountUnit s).aging = s.aging := by
  induction ch generalizing s with
  | nil => rfl
  | cons u ch ih => rw [List.foldl_cons, ih]; simp

@[simp] theorem State.foldl_uncountUnit_lanes (ch : List UnitNo) (s : State) :
    (ch.foldl State.uncountUnit s).lanes = s.lanes := by
  induction ch generalizing s with
  | nil => rfl
  | cons u ch ih => rw [List.foldl_cons, ih]; simp

@[simp] theorem State.foldl_uncountUnit_engine (ch : List UnitNo) (s : State) :
    (ch.foldl State.uncountUnit s).engine = s.engine := by
  induction ch generalizing s with
  | nil => rfl
  | cons u ch ih => rw [List.foldl_cons, ih]; simp

@[simp] theorem State.foldl_uncountUnit_ret (ch : List UnitNo) (s : State) :
    (ch.foldl State.uncountUnit s).ret = s.ret := by
  induction ch generalizing s with
  | nil => rfl
  | cons u ch ih => rw [List.foldl_cons, ih]; simp

@[simp] theorem State.foldl_uncountUnit_counters (ch : List UnitNo) (s : State) :
    (ch.foldl State.uncountUnit s).counters = s.counters := by
  induction ch generalizing s with
  | nil => rfl
  | cons u ch ih => rw [List.foldl_cons, ih]; simp

@[simp] theorem State.foldl_uncountUnit_orphanTally (ch : List UnitNo) (s : State) :
    (ch.foldl State.uncountUnit s).orphanTally = s.orphanTally := by
  induction ch generalizing s with
  | nil => rfl
  | cons u ch ih => rw [List.foldl_cons, ih]; simp

@[simp] theorem State.foldl_uncountUnit_freeIndex (ch : List UnitNo) (s : State) :
    (ch.foldl State.uncountUnit s).freeIndex = s.freeIndex := by
  induction ch generalizing s with
  | nil => rfl
  | cons u ch ih => rw [List.foldl_cons, ih]; simp

@[simp] theorem State.foldl_uncountUnit_octets (ch : List UnitNo) (s : State) :
    (ch.foldl State.uncountUnit s).store.octets = s.store.octets := by
  induction ch generalizing s with
  | nil => rfl
  | cons u ch ih => rw [List.foldl_cons, ih]; simp

@[simp] theorem State.foldl_uncountUnit_freeList (ch : List UnitNo) (s : State) :
    (ch.foldl State.uncountUnit s).store.freeList = s.store.freeList := by
  induction ch generalizing s with
  | nil => rfl
  | cons u ch ih => rw [List.foldl_cons, ih]; simp

@[simp] theorem State.foldl_uncountUnit_hysteresis (ch : List UnitNo) (s : State) :
    (ch.foldl State.uncountUnit s).store.hysteresis = s.store.hysteresis := by
  induction ch generalizing s with
  | nil => rfl
  | cons u ch ih => rw [List.foldl_cons, ih]; simp

/-! ### `returnChain` -/

@[simp] theorem State.returnChain_pending (s : State) (ch : List UnitNo) : (s.returnChain ch).pending = s.pending := by
  simp [State.returnChain]
@[simp] theorem State.returnChain_resetn (s : State) (ch : List UnitNo) : (s.returnChain ch).resetn = s.resetn := by
  simp [State.returnChain]
@[simp] theorem State.returnChain_building (s : State) (ch : List UnitNo) : (s.returnChain ch).building = s.building := by
  simp [State.returnChain]
@[simp] theorem State.returnChain_mode (s : State) (ch : List UnitNo) : (s.returnChain ch).mode = s.mode := by
  simp [State.returnChain]
@[simp] theorem State.returnChain_slotReports (s : State) (ch : List UnitNo) : (s.returnChain ch).slotReports = s.slotReports := by
  simp [State.returnChain]
@[simp] theorem State.returnChain_controller (s : State) (ch : List UnitNo) : (s.returnChain ch).controller = s.controller := by
  simp [State.returnChain]
@[simp] theorem State.returnChain_threads (s : State) (ch : List UnitNo) : (s.returnChain ch).threads = s.threads := by
  simp [State.returnChain]
@[simp] theorem State.returnChain_slots (s : State) (ch : List UnitNo) : (s.returnChain ch).slots = s.slots := by
  simp [State.returnChain]
@[simp] theorem State.returnChain_aging (s : State) (ch : List UnitNo) : (s.returnChain ch).aging = s.aging := by
  simp [State.returnChain]
@[simp] theorem State.returnChain_lanes (s : State) (ch : List UnitNo) : (s.returnChain ch).lanes = s.lanes := by
  simp [State.returnChain]
@[simp] theorem State.returnChain_engine (s : State) (ch : List UnitNo) : (s.returnChain ch).engine = s.engine := by
  simp [State.returnChain]
@[simp] theorem State.returnChain_ret (s : State) (ch : List UnitNo) : (s.returnChain ch).ret = s.ret := by
  simp [State.returnChain]
@[simp] theorem State.returnChain_counters (s : State) (ch : List UnitNo) : (s.returnChain ch).counters = s.counters := by
  simp [State.returnChain]
@[simp] theorem State.returnChain_orphanTally (s : State) (ch : List UnitNo) : (s.returnChain ch).orphanTally = s.orphanTally := by
  simp [State.returnChain]
@[simp] theorem State.returnChain_freeIndex (s : State) (ch : List UnitNo) : (s.returnChain ch).freeIndex = s.freeIndex := by
  simp [State.returnChain]
@[simp] theorem State.returnChain_octets (s : State) (ch : List UnitNo) : (s.returnChain ch).store.octets = s.store.octets := by
  simp [State.returnChain]
@[simp] theorem State.returnChain_hysteresis (s : State) (ch : List UnitNo) : (s.returnChain ch).store.hysteresis = s.store.hysteresis := by
  simp [State.returnChain]
@[simp] theorem State.slot_returnChain (s : State) (ch : List UnitNo) (x : SlotId) : (s.returnChain ch).slot x = s.slot x :=
  State.slot_congr _ _ _ (State.returnChain_slots s ch)
@[simp] theorem State.thread_returnChain (s : State) (ch : List UnitNo) (x : ThreadId) : (s.returnChain ch).thread x = s.thread x :=
  State.thread_congr _ _ _ (State.returnChain_threads s ch)
@[simp] theorem State.lane_returnChain (s : State) (ch : List UnitNo) (x : LaneId) : (s.returnChain ch).lane x = s.lane x :=
  State.lane_congr _ _ _ (State.returnChain_lanes s ch)

/-! ## The free list after a build -/

theorem numericUnits_eq_map (n k : Nat) : numericUnits n k = (List.range' k n).map (Fin.ofNat 8192) := by
  induction n generalizing k with
  | zero => rfl
  | succ n ih => rw [numericUnits, ih, List.range'_succ, List.map_cons]

/-- A build puts all 8192 units in numeric order (04 R65). -/
theorem builtFreeList_eq_finRange : builtFreeList = List.finRange 8192 := by
  have h : (List.finRange 8192).map (Fin.ofNat 8192 ∘ Fin.val) = (List.finRange 8192).map id :=
    List.map_congr_left (fun u _ => Fin.ext (Nat.mod_eq_of_lt u.isLt))
  rw [builtFreeList, numericUnits_eq_map, ← List.range_eq_range', ← List.map_coe_finRange_eq_range, List.map_map, h,
    List.map_id]

end Sys2Proof.Machine
end

