-- ==== Sys2Proof/Laws/Slots.lean ====
section
/-! SUPPORT. The Slot Table: what its operations leave unchanged. -/

namespace Sys2Proof.Machine

/-! ### `poison` -/

@[simp] theorem State.poison_pending (s : State) (k : SlotId) (t : ThreadId) (stamp : PeriodNo) (held : List UnitNo) (g : Option Tag) (r : PoisonReason) : (s.poison k t stamp held g r).pending = s.pending := by
  simp [State.poison]
@[simp] theorem State.poison_resetn (s : State) (k : SlotId) (t : ThreadId) (stamp : PeriodNo) (held : List UnitNo) (g : Option Tag) (r : PoisonReason) : (s.poison k t stamp held g r).resetn = s.resetn := by
  simp [State.poison]
@[simp] theorem State.poison_building (s : State) (k : SlotId) (t : ThreadId) (stamp : PeriodNo) (held : List UnitNo) (g : Option Tag) (r : PoisonReason) : (s.poison k t stamp held g r).building = s.building := by
  simp [State.poison]
@[simp] theorem State.poison_mode (s : State) (k : SlotId) (t : ThreadId) (stamp : PeriodNo) (held : List UnitNo) (g : Option Tag) (r : PoisonReason) : (s.poison k t stamp held g r).mode = s.mode := by
  simp [State.poison]
@[simp] theorem State.poison_slotReports (s : State) (k : SlotId) (t : ThreadId) (stamp : PeriodNo) (held : List UnitNo) (g : Option Tag) (r : PoisonReason) : (s.poison k t stamp held g r).slotReports = s.slotReports := by
  simp [State.poison]
@[simp] theorem State.poison_controller (s : State) (k : SlotId) (t : ThreadId) (stamp : PeriodNo) (held : List UnitNo) (g : Option Tag) (r : PoisonReason) : (s.poison k t stamp held g r).controller = s.controller := by
  simp [State.poison]
@[simp] theorem State.poison_threads (s : State) (k : SlotId) (t : ThreadId) (stamp : PeriodNo) (held : List UnitNo) (g : Option Tag) (r : PoisonReason) : (s.poison k t stamp held g r).threads = s.threads := by
  simp [State.poison]
@[simp] theorem State.poison_aging (s : State) (k : SlotId) (t : ThreadId) (stamp : PeriodNo) (held : List UnitNo) (g : Option Tag) (r : PoisonReason) : (s.poison k t stamp held g r).aging = s.aging := by
  simp [State.poison]
@[simp] theorem State.poison_lanes (s : State) (k : SlotId) (t : ThreadId) (stamp : PeriodNo) (held : List UnitNo) (g : Option Tag) (r : PoisonReason) : (s.poison k t stamp held g r).lanes = s.lanes := by
  simp [State.poison]
@[simp] theorem State.poison_engine (s : State) (k : SlotId) (t : ThreadId) (stamp : PeriodNo) (held : List UnitNo) (g : Option Tag) (r : PoisonReason) : (s.poison k t stamp held g r).engine = s.engine := by
  simp [State.poison]
@[simp] theorem State.poison_orphanTally (s : State) (k : SlotId) (t : ThreadId) (stamp : PeriodNo) (held : List UnitNo) (g : Option Tag) (r : PoisonReason) : (s.poison k t stamp held g r).orphanTally = s.orphanTally := by
  simp [State.poison]
@[simp] theorem State.poison_freeIndex (s : State) (k : SlotId) (t : ThreadId) (stamp : PeriodNo) (held : List UnitNo) (g : Option Tag) (r : PoisonReason) : (s.poison k t stamp held g r).freeIndex = s.freeIndex := by
  simp [State.poison]
@[simp] theorem State.poison_octets (s : State) (k : SlotId) (t : ThreadId) (stamp : PeriodNo) (held : List UnitNo) (g : Option Tag) (r : PoisonReason) : (s.poison k t stamp held g r).store.octets = s.store.octets := by
  simp [State.poison]
@[simp] theorem State.poison_hysteresis (s : State) (k : SlotId) (t : ThreadId) (stamp : PeriodNo) (held : List UnitNo) (g : Option Tag) (r : PoisonReason) : (s.poison k t stamp held g r).store.hysteresis = s.store.hysteresis := by
  simp [State.poison]
@[simp] theorem State.thread_poison (s : State) (k : SlotId) (t : ThreadId) (stamp : PeriodNo) (held : List UnitNo) (g : Option Tag) (r : PoisonReason) (x : ThreadId) : (s.poison k t stamp held g r).thread x = s.thread x :=
  State.thread_congr _ _ _ (State.poison_threads s k t stamp held g r)
@[simp] theorem State.lane_poison (s : State) (k : SlotId) (t : ThreadId) (stamp : PeriodNo) (held : List UnitNo) (g : Option Tag) (r : PoisonReason) (x : LaneId) : (s.poison k t stamp held g r).lane x = s.lane x :=
  State.lane_congr _ _ _ (State.poison_lanes s k t stamp held g r)
/-! ### `releaseSlot` -/

@[simp] theorem State.releaseSlot_pending (s : State) (k : SlotId) : (s.releaseSlot k).pending = s.pending := by
  unfold State.releaseSlot; split <;> simp
@[simp] theorem State.releaseSlot_resetn (s : State) (k : SlotId) : (s.releaseSlot k).resetn = s.resetn := by
  unfold State.releaseSlot; split <;> simp
@[simp] theorem State.releaseSlot_building (s : State) (k : SlotId) : (s.releaseSlot k).building = s.building := by
  unfold State.releaseSlot; split <;> simp
@[simp] theorem State.releaseSlot_mode (s : State) (k : SlotId) : (s.releaseSlot k).mode = s.mode := by
  unfold State.releaseSlot; split <;> simp
@[simp] theorem State.releaseSlot_controller (s : State) (k : SlotId) : (s.releaseSlot k).controller = s.controller := by
  unfold State.releaseSlot; split <;> simp
@[simp] theorem State.releaseSlot_aging (s : State) (k : SlotId) : (s.releaseSlot k).aging = s.aging := by
  unfold State.releaseSlot; split <;> simp
@[simp] theorem State.releaseSlot_lanes (s : State) (k : SlotId) : (s.releaseSlot k).lanes = s.lanes := by
  unfold State.releaseSlot; split <;> simp
@[simp] theorem State.releaseSlot_engine (s : State) (k : SlotId) : (s.releaseSlot k).engine = s.engine := by
  unfold State.releaseSlot; split <;> simp
@[simp] theorem State.releaseSlot_ret (s : State) (k : SlotId) : (s.releaseSlot k).ret = s.ret := by
  unfold State.releaseSlot; split <;> simp
@[simp] theorem State.releaseSlot_counters (s : State) (k : SlotId) : (s.releaseSlot k).counters = s.counters := by
  unfold State.releaseSlot; split <;> simp
@[simp] theorem State.releaseSlot_orphanTally (s : State) (k : SlotId) : (s.releaseSlot k).orphanTally = s.orphanTally := by
  unfold State.releaseSlot; split <;> simp
@[simp] theorem State.releaseSlot_freeIndex (s : State) (k : SlotId) : (s.releaseSlot k).freeIndex = s.freeIndex := by
  unfold State.releaseSlot; split <;> simp
@[simp] theorem State.releaseSlot_octets (s : State) (k : SlotId) : (s.releaseSlot k).store.octets = s.store.octets := by
  unfold State.releaseSlot; split <;> simp
@[simp] theorem State.releaseSlot_hysteresis (s : State) (k : SlotId) : (s.releaseSlot k).store.hysteresis = s.store.hysteresis := by
  unfold State.releaseSlot; split <;> simp
@[simp] theorem State.lane_releaseSlot (s : State) (k : SlotId) (x : LaneId) : (s.releaseSlot k).lane x = s.lane x :=
  State.lane_congr _ _ _ (State.releaseSlot_lanes s k)
/-! ### `discardPlaced` -/

@[simp] theorem State.discardPlaced_pending (s : State) (ch : List UnitNo) (kind : NoticeKind) (c : ParcelCounter) (t : ThreadId) (g : Option Tag) (n : Option LaneId) : (s.discardPlaced ch kind c t g n).pending = s.pending := by
  simp [State.discardPlaced]
@[simp] theorem State.discardPlaced_resetn (s : State) (ch : List UnitNo) (kind : NoticeKind) (c : ParcelCounter) (t : ThreadId) (g : Option Tag) (n : Option LaneId) : (s.discardPlaced ch kind c t g n).resetn = s.resetn := by
  simp [State.discardPlaced]
@[simp] theorem State.discardPlaced_building (s : State) (ch : List UnitNo) (kind : NoticeKind) (c : ParcelCounter) (t : ThreadId) (g : Option Tag) (n : Option LaneId) : (s.discardPlaced ch kind c t g n).building = s.building := by
  simp [State.discardPlaced]
@[simp] theorem State.discardPlaced_mode (s : State) (ch : List UnitNo) (kind : NoticeKind) (c : ParcelCounter) (t : ThreadId) (g : Option Tag) (n : Option LaneId) : (s.discardPlaced ch kind c t g n).mode = s.mode := by
  simp [State.discardPlaced]
@[simp] theorem State.discardPlaced_slotReports (s : State) (ch : List UnitNo) (kind : NoticeKind) (c : ParcelCounter) (t : ThreadId) (g : Option Tag) (n : Option LaneId) : (s.discardPlaced ch kind c t g n).slotReports = s.slotReports := by
  simp [State.discardPlaced]
@[simp] theorem State.discardPlaced_controller (s : State) (ch : List UnitNo) (kind : NoticeKind) (c : ParcelCounter) (t : ThreadId) (g : Option Tag) (n : Option LaneId) : (s.discardPlaced ch kind c t g n).controller = s.controller := by
  simp [State.discardPlaced]
@[simp] theorem State.discardPlaced_threads (s : State) (ch : List UnitNo) (kind : NoticeKind) (c : ParcelCounter) (t : ThreadId) (g : Option Tag) (n : Option LaneId) : (s.discardPlaced ch kind c t g n).threads = s.threads := by
  simp [State.discardPlaced]
@[simp] theorem State.discardPlaced_slots (s : State) (ch : List UnitNo) (kind : NoticeKind) (c : ParcelCounter) (t : ThreadId) (g : Option Tag) (n : Option LaneId) : (s.discardPlaced ch kind c t g n).slots = s.slots := by
  simp [State.discardPlaced]
@[simp] theorem State.discardPlaced_aging (s : State) (ch : List UnitNo) (kind : NoticeKind) (c : ParcelCounter) (t : ThreadId) (g : Option Tag) (n : Option LaneId) : (s.discardPlaced ch kind c t g n).aging = s.aging := by
  simp [State.discardPlaced]
@[simp] theorem State.discardPlaced_lanes (s : State) (ch : List UnitNo) (kind : NoticeKind) (c : ParcelCounter) (t : ThreadId) (g : Option Tag) (n : Option LaneId) : (s.discardPlaced ch kind c t g n).lanes = s.lanes := by
  simp [State.discardPlaced]
@[simp] theorem State.discardPlaced_engine (s : State) (ch : List UnitNo) (kind : NoticeKind) (c : ParcelCounter) (t : ThreadId) (g : Option Tag) (n : Option LaneId) : (s.discardPlaced ch kind c t g n).engine = s.engine := by
  simp [State.discardPlaced]
@[simp] theorem State.discardPlaced_orphanTally (s : State) (ch : List UnitNo) (kind : NoticeKind) (c : ParcelCounter) (t : ThreadId) (g : Option Tag) (n : Option LaneId) : (s.discardPlaced ch kind c t g n).orphanTally = s.orphanTally := by
  simp [State.discardPlaced]
@[simp] theorem State.discardPlaced_freeIndex (s : State) (ch : List UnitNo) (kind : NoticeKind) (c : ParcelCounter) (t : ThreadId) (g : Option Tag) (n : Option LaneId) : (s.discardPlaced ch kind c t g n).freeIndex = s.freeIndex := by
  simp [State.discardPlaced]
@[simp] theorem State.discardPlaced_octets (s : State) (ch : List UnitNo) (kind : NoticeKind) (c : ParcelCounter) (t : ThreadId) (g : Option Tag) (n : Option LaneId) : (s.discardPlaced ch kind c t g n).store.octets = s.store.octets := by
  simp [State.discardPlaced]
@[simp] theorem State.discardPlaced_hysteresis (s : State) (ch : List UnitNo) (kind : NoticeKind) (c : ParcelCounter) (t : ThreadId) (g : Option Tag) (n : Option LaneId) : (s.discardPlaced ch kind c t g n).store.hysteresis = s.store.hysteresis := by
  simp [State.discardPlaced]
@[simp] theorem State.slot_discardPlaced (s : State) (ch : List UnitNo) (kind : NoticeKind) (c : ParcelCounter) (t : ThreadId) (g : Option Tag) (n : Option LaneId) (x : SlotId) : (s.discardPlaced ch kind c t g n).slot x = s.slot x :=
  State.slot_congr _ _ _ (State.discardPlaced_slots s ch kind c t g n)
@[simp] theorem State.thread_discardPlaced (s : State) (ch : List UnitNo) (kind : NoticeKind) (c : ParcelCounter) (t : ThreadId) (g : Option Tag) (n : Option LaneId) (x : ThreadId) : (s.discardPlaced ch kind c t g n).thread x = s.thread x :=
  State.thread_congr _ _ _ (State.discardPlaced_threads s ch kind c t g n)
@[simp] theorem State.lane_discardPlaced (s : State) (ch : List UnitNo) (kind : NoticeKind) (c : ParcelCounter) (t : ThreadId) (g : Option Tag) (n : Option LaneId) (x : LaneId) : (s.discardPlaced ch kind c t g n).lane x = s.lane x :=
  State.lane_congr _ _ _ (State.discardPlaced_lanes s ch kind c t g n)

end Sys2Proof.Machine
end

