-- ==== Sys2Proof/Laws/Engine.lean ====
section
/-! SUPPORT. The Management Engine: a request taken by a ready engine, and the effects of requests, none of which reads or writes the engine's own record. -/

namespace Sys2Proof.Machine

/-! ### A ready engine -/

/-- A request that reaches a ready engine is taken at once, the reservation held (08 R121, R122). -/
theorem State.requestArrives_ready (s : State) (r : Request) (h : s.ready) :
    s.requestArrives r = { s with engine := { s.engine with reserved := true } }.carryOut r := by
  obtain ⟨hm, hq, hp, hr, hn⟩ := h
  have hn' : s.ret.replies.length < 8 := hn
  simp [State.requestArrives, State.arrive, State.serve, State.takeRequests, State.canTake, State.takeHead,
    State.occupiedPlaces, hm, hq, hp, hr, hn', Config.managementPlaces, Config.replyPlaces]

/-- A ready engine with its reservation given back is the engine as it was. -/
theorem State.ready_engine (s : State) (h : s.ready) : { s.engine with reserved := false } = s.engine := by
  rw [← h.2.2.2.1]

/-- The reply to a request that a ready engine has taken, after an effect `t` that leaves the engine alone. -/
theorem State.answer_ready (s t : State) (r : Request) (st : Status) (c : ReplyResult) (h : s.ready)
    (ht : t.engine = s.engine) :
    { t with engine := { s.engine with reserved := true } }.answer r st c =
      t.queueReply { number := r.number, code := r.code, status := st, result := c } := by
  have e := State.ready_engine s h
  simp only [State.answer, e]
  rw [← ht]

/-- In STARTING a request leaves no trace (07 R110, 08 R120). -/
theorem State.requestArrives_starting (s : State) (r : Request) (h : s.mode = .starting) : s.requestArrives r = s := by
  simp [State.requestArrives, h]

/-- The two octets of a field, most significant first, make the field again. -/
theorem fieldOctets_join (v : BitVec 16) : v.extractLsb' 8 8 ++ v.extractLsb' 0 8 = v := by
  rw [BitVec.extractLsb'_append_extractLsb'_eq_extractLsb' (by omega)]
  simp

/-! ### Effects that leave the engine's record alone -/

/-- The state with another engine record. -/
def State.withEngine (s : State) (e : Engine) : State := { s with engine := e }

theorem State.raise_withEngine (s : State) (e : Engine) (k : NoticeKind) (t : Option ThreadId) (g : Option Tag)
    (n : Option LaneId) (c : Option (BitVec 16)) :
    (s.withEngine e).raise k t g n c = (s.raise k t g n c).withEngine e := by
  unfold State.raise
  by_cases h : s.ret.noticeMask.getLsbD k.code = false
  · exact (if_pos h).trans (by rw [if_pos h])
  · refine (if_neg h).trans ?_
    rw [if_neg h]
    by_cases h' : s.ret.notices.length ≥ Config.noticePlaces
    · exact (if_pos h').trans (by rw [if_pos h']; rfl)
    · exact (if_neg h').trans (by rw [if_neg h']; rfl)

theorem State.changeCongestion_withEngine (s : State) (e : Engine) (c : ClassId) (b : Bool) :
    (s.withEngine e).changeCongestion c b = (s.changeCongestion c b).withEngine e := rfl

theorem State.judgeRise_withEngine (s : State) (e : Engine) (c : ClassId) :
    (s.withEngine e).judgeRise c = (s.judgeRise c).withEngine e := by
  unfold State.judgeRise
  by_cases h : (s.cls c).congested = false ∧ (s.cls c).warn ≤ (s.cls c).usage
  · exact (if_pos h).trans (by rw [if_pos h]; rfl)
  · exact (if_neg h).trans (by rw [if_neg h])

theorem State.judgeFall_withEngine (s : State) (e : Engine) (c : ClassId) :
    (s.withEngine e).judgeFall c = (s.judgeFall c).withEngine e := by
  unfold State.judgeFall
  by_cases h : (s.cls c).congested = true ∧ (s.cls c).usage ≤ s.clearLevel c ∧ (s.cls c).usage < (s.cls c).warn
  · exact (if_pos h).trans (by rw [if_pos h]; rfl)
  · exact (if_neg h).trans (by rw [if_neg h])

theorem State.rejudge_withEngine (s : State) (e : Engine) (c : ClassId) :
    (s.withEngine e).rejudge c = (s.rejudge c).withEngine e := by
  unfold State.rejudge
  by_cases h : (s.cls c).congested = true
  · exact (if_pos h).trans (by rw [if_pos h]; exact State.judgeFall_withEngine s e c)
  · exact (if_neg h).trans (by rw [if_neg h]; exact State.judgeRise_withEngine s e c)

/-- A fold of operations that leave the engine's record alone leaves it alone. -/
theorem State.foldl_withEngine {α : Type} (f : State → α → State)
    (hf : ∀ s a e, f (s.withEngine e) a = (f s a).withEngine e) (as : List α) (s : State) (e : Engine) :
    as.foldl f (s.withEngine e) = (as.foldl f s).withEngine e := by
  induction as generalizing s with
  | nil => rfl
  | cons a as ih => rw [List.foldl_cons, hf, ih, List.foldl_cons]

theorem State.settleClass_withEngine (s : State) (e : Engine) (c : ClassId) :
    (s.withEngine e).settleClass c = (s.settleClass c).withEngine e := by
  unfold State.settleClass
  by_cases h : (s.cls c).fallOwed = true
  · exact (if_pos h).trans
      (by rw [if_pos h]; exact State.judgeFall_withEngine (s.setCls c { s.cls c with fallOwed := false }) e c)
  · exact (if_neg h).trans (by rw [if_neg h])

theorem State.settleReturns_withEngine (s : State) (e : Engine) :
    (s.withEngine e).settleReturns = s.settleReturns.withEngine e :=
  State.foldl_withEngine _ (fun s c e => State.settleClass_withEngine s e c) _ s e

theorem State.uncountUnit_withEngine (s : State) (e : Engine) (u : UnitNo) :
    (s.withEngine e).uncountUnit u = (s.uncountUnit u).withEngine e := by
  unfold State.uncountUnit
  show (match s.store.unitClass[u.val] with | none => _ | some c => _) = _
  cases s.store.unitClass[u.val] <;> rfl

theorem State.returnChain_withEngine (s : State) (e : Engine) (chain : List UnitNo) :
    (s.withEngine e).returnChain chain = (s.returnChain chain).withEngine e := by
  unfold State.returnChain
  rw [State.foldl_withEngine _ (fun s u e => State.uncountUnit_withEngine s e u)]
  rfl

theorem State.clearAtRebuild_withEngine (s : State) (e : Engine) (c : ClassId) :
    (s.withEngine e).clearAtRebuild c = (s.clearAtRebuild c).withEngine e := by
  unfold State.clearAtRebuild
  by_cases h : (s.cls c).congested = true
  · exact (if_pos h).trans (by rw [if_pos h]; rfl)
  · exact (if_neg h).trans (by rw [if_neg h])

theorem State.rebuildStore_withEngine (s : State) (e : Engine) :
    (s.withEngine e).rebuildStore = s.rebuildStore.withEngine e :=
  State.foldl_withEngine State.clearAtRebuild (fun s c e => State.clearAtRebuild_withEngine s e c) classIds
    { s with store := { s.store with
      unitClass := Vector.replicate 8192 none
      freeList := builtFreeList
      classes := s.store.classes.map (fun a => { a with usage := 0, fallOwed := false }) } } e

/-- The returns of several descriptors, one chain each. -/
theorem State.returnDescriptors_withEngine (s : State) (e : Engine) (ds : List Descriptor) :
    ds.foldl (fun t d => t.returnChain d.units) (s.withEngine e) =
      (ds.foldl (fun t d => t.returnChain d.units) s).withEngine e :=
  State.foldl_withEngine _ (fun s d e => State.returnChain_withEngine s e d.units) ds s e

theorem State.flushLane_withEngine (s : State) (e : Engine) (n : LaneId) :
    (s.withEngine e).flushLane n = (s.flushLane n).withEngine e := by
  have h := State.returnDescriptors_withEngine (s.setLane n (s.lane n).flush) e (s.lane n).queue
  unfold State.flushLane
  refine Eq.trans (congrArg State.settleReturns ?_) (State.settleReturns_withEngine _ e)
  by_cases hq : (s.lane n).queue = []
  · exact (if_pos hq).trans (h.trans (by rw [if_pos hq]))
  · refine (if_neg hq).trans ?_
    rw [if_neg hq]
    exact congrArg (fun v : State => v.bumpLane n .flushed (s.lane n).queue.length)
      ((congrArg (fun v : State => v.raise .flushed none none (some n)
        (some (BitVec.ofNat 16 (s.lane n).queue.length))) h).trans (State.raise_withEngine _ e _ _ _ _ _))

theorem State.poison_withEngine (s : State) (e : Engine) (k : SlotId) (t : ThreadId) (p : PeriodNo)
    (held : List UnitNo) (g : Option Tag) (r : PoisonReason) :
    (s.withEngine e).poison k t p held g r = (s.poison k t p held g r).withEngine e := by
  unfold State.poison
  rw [State.returnChain_withEngine, State.raise_withEngine]
  rfl

theorem State.releaseSlot_withEngine (s : State) (e : Engine) (k : SlotId) :
    (s.withEngine e).releaseSlot k = (s.releaseSlot k).withEngine e := by
  unfold State.releaseSlot
  show (match s.slot k with | .free => _ | .resting t _ _ => _ | .skipping t _ _ _ => _ | .assembling t _ a => _) = _
  cases s.slot k with
  | free => rfl
  | resting t p q => rfl
  | skipping t p g r => rfl
  | assembling t p a => simp only [State.returnChain_withEngine]; rfl

theorem State.cutSkipThread_withEngine (s : State) (e : Engine) (m : Nat) (t : ThreadId) :
    State.cutSkipThread (s.withEngine e, m) t =
      ((State.cutSkipThread (s, m) t).1.withEngine e, (State.cutSkipThread (s, m) t).2) := by
  unfold State.cutSkipThread
  show (match s.boundSlot t with | none => _ | some k => _) = _
  cases s.boundSlot t with
  | none => rfl
  | some k =>
    show (match s.slot k with | .free => _ | .resting _ _ _ => _ | .skipping _ _ _ _ => _ | .assembling _ _ _ => _) = _
    cases hk : s.slot k <;> simp only [hk, State.poison_withEngine]

theorem State.cutReleaseThread_withEngine (s : State) (e : Engine) (m : Nat × Nat) (t : ThreadId) :
    State.cutReleaseThread (s.withEngine e, m) t =
      ((State.cutReleaseThread (s, m) t).1.withEngine e, (State.cutReleaseThread (s, m) t).2) := by
  unfold State.cutReleaseThread
  show (match s.boundSlot t with | none => _ | some k => _) = _
  cases s.boundSlot t with
  | none => rfl
  | some k =>
    simp only [State.releaseSlot_withEngine, State.raise_withEngine,
      show (s.withEngine e).slot k = s.slot k from rfl]
    by_cases h : (s.slot k).busy = true
    · simp only [if_pos h]; rfl
    · simp only [if_neg h]

theorem State.restartLane_withEngine (s : State) (e : Engine) (n : LaneId) :
    (s.withEngine e).restartLane n = (s.restartLane n).withEngine e := by
  unfold State.restartLane
  simp only [show (s.withEngine e).lane n = s.lane n from rfl]
  cases (s.lane n).emission <;> rfl

theorem State.restartTraffic_withEngine (s : State) (e : Engine) :
    (s.withEngine e).restartTraffic = s.restartTraffic.withEngine e := by
  have h := State.foldl_withEngine State.restartLane (fun s n e => State.restartLane_withEngine s e n) laneIds s e
  have h' := State.rebuildStore_withEngine ({ laneIds.foldl State.restartLane s with
    aging := (laneIds.foldl State.restartLane s).aging.restart }.restartSlots) e
  unfold State.restartTraffic
  rw [h]
  exact congrArg (fun v : State => { v with ret := v.ret.restart, mode := .init }) h'

/-! ### Their frames, from the above -/

@[simp] theorem State.flushLane_engine (s : State) (n : LaneId) : (s.flushLane n).engine = s.engine := by
  have h := congrArg State.engine (State.flushLane_withEngine s s.engine n)
  exact h
@[simp] theorem State.restartTraffic_engine (s : State) : s.restartTraffic.engine = s.engine := by
  have h := congrArg State.engine (State.restartTraffic_withEngine s s.engine)
  exact h

theorem State.foldl_cutSkip_engine (ts : List ThreadId) (p : State × Nat) :
    (ts.foldl State.cutSkipThread p).1.engine = p.1.engine := by
  induction ts generalizing p with
  | nil => rfl
  | cons t ts ih =>
    rw [List.foldl_cons, ih]
    have h := congrArg (fun q : State × Nat => q.1.engine) (State.cutSkipThread_withEngine p.1 p.1.engine p.2 t)
    exact h

theorem State.foldl_cutRelease_engine (ts : List ThreadId) (p : State × Nat × Nat) :
    (ts.foldl State.cutReleaseThread p).1.engine = p.1.engine := by
  induction ts generalizing p with
  | nil => rfl
  | cons t ts ih =>
    rw [List.foldl_cons, ih]
    have h := congrArg (fun q : State × Nat × Nat => q.1.engine)
      (State.cutReleaseThread_withEngine p.1 p.1.engine p.2 t)
    exact h

theorem State.foldl_rejudge_engine (cs : List ClassId) (s : State) :
    (cs.foldl State.rejudge s).engine = s.engine := by
  have h := congrArg State.engine
    (State.foldl_withEngine State.rejudge (fun s c e => State.rejudge_withEngine s e c) cs s s.engine)
  exact h

/-! ### What a request that is taken leaves in the engine -/

/-- A reply leaves the management queue and the request in progress alone, and gives the reservation back. -/
theorem State.answer_engine (s : State) (r : Request) (st : Status) (c : ReplyResult) :
    (s.answer r st c).engine = { s.engine with reserved := false } := rfl

/-- The management queue a request that is taken leaves: as it was, or empty at a RESTART FULL (08 R122, R138). -/
def State.queueKept (s t : State) : Prop := t.engine.queue = s.engine.queue ∨ t.engine.queue = []

theorem State.queueKept_answer (s t : State) (r : Request) (st : Status) (c : ReplyResult) (h : t.engine = s.engine) :
    s.queueKept (t.answer r st c) := by
  left; rw [State.answer_engine, h]

theorem State.queueKept_doWriteSetting (s : State) (r : Request) : s.queueKept (s.doWriteSetting r) := by
  have hq : ∀ c v, s.queueKept (s.doWriteQuota r c v) := fun c v => by
    unfold State.doWriteQuota; split <;> exact State.queueKept_answer _ _ _ _ _ rfl
  have hw : ∀ c v, s.queueKept (s.doWriteWarn r c v) := fun c v => by
    unfold State.doWriteWarn
    split
    · exact State.queueKept_answer _ _ _ _ _ (by simp)
    · exact State.queueKept_answer _ _ _ _ _ rfl
  have hs : ∀ n v, s.queueKept (s.doWriteStall r n v) := fun n v => State.queueKept_answer _ _ _ _ _ rfl
  unfold State.doWriteSetting
  dsimp only
  split
  · exact State.queueKept_answer _ _ _ _ _ rfl
  · exact State.queueKept_answer _ _ _ _ _ rfl
  · unfold State.doWriteController; split <;> exact State.queueKept_answer _ _ _ _ _ rfl
  · unfold State.doWritePeriod; split <;> exact State.queueKept_answer _ _ _ _ _ rfl
  · unfold State.doWriteDrainLimit
    split
    · exact .inl rfl
    · exact State.queueKept_answer _ _ _ _ _ rfl
  · exact hq _ _
  · exact hq _ _
  · exact hq _ _
  · exact hq _ _
  · exact hw _ _
  · exact hw _ _
  · exact hw _ _
  · exact hw _ _
  · unfold State.doWriteHysteresis
    split
    · exact State.queueKept_answer _ _ _ _ _ (State.foldl_rejudge_engine _ _)
    · exact State.queueKept_answer _ _ _ _ _ rfl
  · unfold State.doWriteNoticeMask; split <;> exact State.queueKept_answer _ _ _ _ _ rfl
  · exact hs _ _
  · exact hs _ _
  · exact hs _ _
  · exact hs _ _
  · exact State.queueKept_answer _ _ _ _ _ rfl
  · exact State.queueKept_answer _ _ _ _ _ rfl

theorem State.queueKept_writeThread (s : State) (r : Request) (t : ThreadId) (c : ThreadConfig) :
    s.queueKept (s.writeThread r t c) := by
  unfold State.writeThread
  split
  · exact State.queueKept_answer _ _ _ _ _ rfl
  · split
    · exact State.queueKept_answer _ _ _ _ _ rfl
    · split <;> exact State.queueKept_answer _ _ _ _ _ rfl
    · exact State.queueKept_answer _ _ _ _ _ rfl
    · exact State.queueKept_answer _ _ _ _ _ rfl

theorem State.queueKept_doCut (s : State) (r : Request) : s.queueKept (s.doCut r) := by
  unfold State.doCut
  split
  · exact State.queueKept_answer _ _ _ _ _ (by simp [State.foldl_cutSkip_engine])
  · exact State.queueKept_answer _ _ _ _ _ (by simp [State.foldl_cutRelease_engine])
  · exact State.queueKept_answer _ _ _ _ _ rfl

theorem State.queueKept_doLane (s : State) (r : Request) : s.queueKept (s.doLane r) := by
  unfold State.doLane
  split
  · exact State.queueKept_answer _ _ _ _ _ rfl
  · exact State.queueKept_answer _ _ _ _ _ rfl
  · exact State.queueKept_answer _ _ _ _ _ (by simp)
  · exact State.queueKept_answer _ _ _ _ _ rfl

theorem State.queueKept_doReadCounters (s : State) (r : Request) : s.queueKept (s.doReadCounters r) := by
  unfold State.doReadCounters
  dsimp only
  split
  · split <;> exact State.queueKept_answer _ _ _ _ _ rfl
  · split <;> exact State.queueKept_answer _ _ _ _ _ rfl
  · split
    · exact State.queueKept_answer _ _ _ _ _ rfl
    · split <;> exact State.queueKept_answer _ _ _ _ _ rfl
  · split <;> exact State.queueKept_answer _ _ _ _ _ rfl
  · exact State.queueKept_answer _ _ _ _ _ rfl

theorem State.queueKept_beginDrain (s t : State) (r : Request) (h : t.engine = s.engine) :
    s.queueKept (t.beginDrain r) := by
  unfold State.beginDrain
  split
  · exact State.queueKept_answer _ _ _ _ _ h
  · exact .inl (by rw [h])

theorem State.judgeClose_engine (s : State) : s.judgeClose.engine = s.engine := by
  unfold State.judgeClose; split <;> rfl

theorem State.queueKept_doDrain (s : State) (r : Request) : s.queueKept (s.doDrain r) := by
  unfold State.doDrain
  split
  · exact State.queueKept_answer _ _ _ _ _ rfl
  · exact State.queueKept_answer _ _ _ _ _ rfl
  · exact State.queueKept_beginDrain _ _ _ (State.judgeClose_engine _)
  · exact State.queueKept_beginDrain _ _ _ (State.judgeClose_engine _)
  · exact State.queueKept_beginDrain _ _ _ rfl

theorem State.queueKept_doRestart (s : State) (r : Request) : s.queueKept (s.doRestart r) := by
  unfold State.doRestart
  split
  · exact State.queueKept_answer _ _ _ _ _ (by simp)
  · exact .inr rfl
  · exact State.queueKept_answer _ _ _ _ _ rfl

/-- A request that is carried out leaves the queue behind it, or empties it (08 R122, R138). -/
theorem State.queueKept_carryOut (s : State) (r : Request) : s.queueKept (s.carryOut r) := by
  unfold State.carryOut
  split
  · exact State.queueKept_answer _ _ _ _ _ rfl
  · unfold State.doReadSetting; split <;> exact State.queueKept_answer _ _ _ _ _ rfl
  · exact State.queueKept_doWriteSetting s r
  · unfold State.doReadThread; split <;> exact State.queueKept_answer _ _ _ _ _ rfl
  · unfold State.doWriteThread
    split
    · exact State.queueKept_writeThread _ _ _ _
    · exact State.queueKept_answer _ _ _ _ _ rfl
  · unfold State.doReadSlot; split <;> exact State.queueKept_answer _ _ _ _ _ rfl
  · exact State.queueKept_doCut s r
  · exact State.queueKept_doLane s r
  · exact State.queueKept_answer _ _ _ _ _ rfl
  · exact State.queueKept_doDrain s r
  · exact State.queueKept_doReadCounters s r
  · exact State.queueKept_doRestart s r

/-- Serving with as much fuel as requests wait ends with none that could be taken (08 R122). -/
theorem State.takeRequests_canTake (n : Nat) (s : State) (h : s.engine.queue.length ≤ n) :
    (State.takeRequests n s).canTake = false := by
  induction n generalizing s with
  | zero => simp [State.takeRequests, State.canTake, List.length_eq_zero_iff.mp (Nat.le_zero.mp h)]
  | succ n ih =>
    unfold State.takeRequests
    by_cases hc : s.canTake = true
    · rw [if_pos hc]
      refine ih _ ?_
      unfold State.takeHead
      rcases hq : s.engine.queue with _ | ⟨r, rest⟩
      · simp [hq]
      · rw [hq] at h
        rcases State.queueKept_carryOut { s with engine := { s.engine with queue := rest, reserved := true } } r with e | e
        · rw [e]; simpa using h
        · rw [e]; simp
    · rw [if_neg hc]; simpa using hc

theorem State.serve_canTake (s : State) : s.serve.canTake = false :=
  State.takeRequests_canTake _ _ (le_refl _)

/-- With no request that could be taken, the engine takes none. -/
theorem State.serve_idle (s : State) (h : s.canTake = false) : s.serve = s := by
  unfold State.serve
  cases s.engine.queue.length with
  | zero => rfl
  | succ n => simp [State.takeRequests, h]

end Sys2Proof.Machine
end

