-- ==== Sys2Proof/Laws/Lanes.lean ====
section
/-! SUPPORT. The Lane Controllers: the head judgement row by row, what each lane operation keeps, and the drain condition lane by lane. -/

namespace Sys2Proof.Machine

/-! ### The rows of the head judgement (06 R94) -/

theorem Lane.judgeHead_empty (l : Lane) (b : Bool) (h : l.queue = []) :
    l.judgeHead b = { l with state := .idle, stallTimer := none } := by
  simp [Lane.judgeHead, h]

theorem Lane.judgeHead_starts (l : Lane) (b : Bool) (d : Descriptor) (rest : List Descriptor) (h : l.queue = d :: rest)
    (hc : d.blocks ≤ l.credit) : l.judgeHead b = l.startEmission d rest := by
  simp [Lane.judgeHead, h, hc]

theorem Lane.judgeHead_waits (l : Lane) (b : Bool) (d : Descriptor) (rest : List Descriptor) (h : l.queue = d :: rest)
    (hc : l.credit < d.blocks) (hw : l.state ≠ .waiting ∨ b = true) : l.judgeHead b = l.wait := by
  have : ¬ (l.state = .waiting ∧ b = false) := by
    rcases hw with hw | hw <;> simp [hw]
  simp only [Lane.judgeHead, h, if_neg (Nat.not_le.mpr hc), if_neg this]

theorem Lane.judgeHead_stays (l : Lane) (d : Descriptor) (rest : List Descriptor) (h : l.queue = d :: rest)
    (hc : l.credit < d.blocks) (hw : l.state = .waiting) : l.judgeHead false = l := by
  simp only [Lane.judgeHead, h, if_neg (Nat.not_le.mpr hc), hw, and_self, if_true]

/-- The head judgement gives a lane without an emission the shape of its state, where it is WAITING only by this
judgement. -/
theorem Lane.judgeHead_shape (l : Lane) (b : Bool) (he : l.emission = none) : (l.judgeHead b).shape := by
  rcases hq : l.queue with _ | ⟨d, rest⟩
  · rw [Lane.judgeHead_empty l b hq]
    simp [Lane.shape, hq, he]
  · by_cases hc : d.blocks ≤ l.credit
    · rw [Lane.judgeHead_starts l b d rest hq hc]
      simp [Lane.shape, Lane.startEmission]
    · have hc' := Nat.not_le.mp hc
      by_cases hw : l.state = .waiting ∧ b = false
      · rw [hw.2, Lane.judgeHead_stays l d rest hq hc' hw.1]
        simp [Lane.shape, hw.1, hq, he, hc']
      · rw [Lane.judgeHead_waits l b d rest hq hc' (by by_cases h : l.state = .waiting <;> simp_all)]
        simp [Lane.shape, Lane.wait, hq, he, hc']

/-- The head judgement adds nothing to the queue and nothing to the credit. -/
theorem Lane.judgeHead_bounds (l : Lane) (b : Bool) :
    (l.judgeHead b).queue.length ≤ l.queue.length ∧ (l.judgeHead b).credit ≤ l.credit := by
  unfold Lane.judgeHead
  split
  · rename_i h; simp [h]
  · rename_i d rest h
    split
    · simp [Lane.startEmission, h]
    · split <;> simp [Lane.wait]

/-- The head judgement leaves the setting, the last frame and every unit the lane holds. -/
theorem Lane.judgeHead_keeps (l : Lane) (b : Bool) :
    (l.judgeHead b).stallLimit = l.stallLimit ∧ (l.judgeHead b).lastFrame = l.lastFrame := by
  unfold Lane.judgeHead
  split
  · exact ⟨rfl, rfl⟩
  · split
    · exact ⟨rfl, rfl⟩
    · split <;> exact ⟨rfl, rfl⟩

/-! ### Writing a lane -/

theorem State.setLane_setLane (s : State) (n : LaneId) (a b : Lane) : (s.setLane n a).setLane n b = s.setLane n b := by
  simp [State.setLane]

theorem State.setLane_lane (s : State) (n : LaneId) : s.setLane n (s.lane n) = s := by
  simp [State.setLane, State.lane]

/-- The count of a grant word is its low twelve bits (11 R167). -/
theorem grantBlocks_eq (w : BitVec 16) : grantBlocks w = w.toNat % 4096 := by
  simp [grantBlocks]

/-! ### The drain condition -/

/-- The drain condition, lane by lane (08 R134). -/
theorem State.drainCondition_iff (s : State) :
    s.drainCondition = true ↔ s.mode = .closed ∧ ∀ n : LaneId, (s.lane n).queue = [] ∧ (s.lane n).state ≠ .sending ∧
      (s.lane n).state ≠ .stopping := by
  have hl : ∀ l : Lane, l.settled = true ↔ l.queue = [] ∧ l.state ≠ .sending ∧ l.state ≠ .stopping := by
    intro l
    cases h : l.state <;> simp [Lane.settled, LaneState.inFlight, h]
  simp only [State.drainCondition, Bool.and_eq_true, decide_eq_true_eq, List.all_eq_true, hl]
  refine and_congr_right fun _ => ⟨fun h n => h n ?_, fun h n _ => h n⟩
  fin_cases n <;> simp [laneIds]

/-- A lane's report changes nothing without a DRAIN in progress or without the drain condition (06 R109, 08 R135). -/
theorem State.laneReport_stays (s : State) (n : LaneId) (h : s.engine.inProgress = none ∨ s.drainCondition = false) :
    s.laneReport n = s := by
  have hd : s.drainReport = s := by
    unfold State.drainReport
    cases hp : s.engine.inProgress with
    | none => rfl
    | some r => simp [h.resolve_left (by simp [hp])]
  unfold State.laneReport
  rw [hd, ite_self]

end Sys2Proof.Machine
end

