-- ==== Sys2Proof/Laws/Requests.lean ====
section
/-! SUPPORT. The request rows: each is the arrival of the request its payload octets spell. -/

namespace Sys2Proof.Machine

theorem octet_add_ofNat (k : Nat) (c : Fin 4) : BitVec.ofNat 8 (k + c.val) = BitVec.ofNat 8 k + BitVec.ofNat 8 c.val :=
  BitVec.ofNat_add k c.val

/-- A request row is the arrival of the request in its payload (11 R164, log entry 3). -/
theorem exec_request (i : Instr) (s : State) (p : List Byte) (h : requestPayload i = some p) :
    exec i s = .next (s.requestArrives (requestOf p)) := by
  have hn : ∀ n : BitVec 16, n.extractLsb' 8 8 ++ n.extractLsb' 0 8 = n := fieldOctets_join
  have key : ∀ (n : BitVec 16) (code : Byte) (listed : List Byte),
      requestOf ((fieldOctets n ++ code :: listed) ++
        List.replicate (56 - (fieldOctets n ++ code :: listed).length) 0) = requestWith n code listed := by
    intro n code listed
    have e : 56 - (fieldOctets n ++ code :: listed).length = 53 - listed.length := by
      simp [fieldOctets]
    rw [e]
    show Request.mk _ _ _ = Request.mk _ _ _
    congr 1
    exact hn n
  have out : ∀ a b : Request, a = b →
      (Host.Outcome.next (s.requestArrives a) : Host.Outcome State Fault Refusal) = .next (s.requestArrives b) :=
    fun _ _ e => congrArg (fun r => Host.Outcome.next (s.requestArrives r)) e
  cases i <;> simp only [requestPayload, requestOctets, Option.map_none, Option.map_some, Option.some.injEq,
    reduceCtorEq] at h <;> subst h
  case readSetting n i => exact out _ _ (key n 1 [i]).symm
  case writeSetting n i v =>
    refine out _ _ (Eq.trans ?_ (key n 2 (i :: fieldOctets v)).symm)
    simp [writeSettingRequest]
  case writeController n v => exact out _ _ (key n 2 (2 :: fieldOctets v)).symm
  case writePeriod n v => exact out _ _ (key n 2 (3 :: fieldOctets v)).symm
  case writeQuota n c v =>
    refine out _ _
      (Eq.trans ?_ (key n 2 ((5 + BitVec.ofNat 8 c.val) :: fieldOctets v)).symm)
    rw [writeSettingRequest, octet_add_ofNat]
    rfl
  case writeWarn n c v =>
    refine out _ _
      (Eq.trans ?_ (key n 2 ((9 + BitVec.ofNat 8 c.val) :: fieldOctets v)).symm)
    rw [writeSettingRequest, octet_add_ofNat]
    rfl
  case writeHysteresis n v => exact out _ _ (key n 2 (13 :: fieldOctets v)).symm
  case writeStall n c v =>
    refine out _ _
      (Eq.trans ?_ (key n 2 ((15 + BitVec.ofNat 8 c.val) :: fieldOctets v)).symm)
    rw [writeSettingRequest, octet_add_ofNat]
    rfl
  case readThread n t => exact out _ _ (key n 3 (fieldOctets t)).symm
  case writeThread n t e c l m w o r y =>
    exact out _ _ (key n 4 (fieldOctets t ++ [e, c, l, m, w, o, r, y])).symm
  case readSlot n k => exact out _ _ (key n 5 [k]).symm
  case cutSkip n g i => exact out _ _ (key n 6 (g :: fieldOctets i ++ [0])).symm
  case cutRelease n g i =>
    exact out _ _ (key n 6 (g :: fieldOctets i ++ [1])).symm
  case laneStart n l => exact out _ _ (key n 7 [l, 0]).symm
  case laneStop n l => exact out _ _ (key n 7 [l, 1]).symm
  case laneFlush n l => exact out _ _ (key n 7 [l, 2]).symm
  case openDevice n => exact out _ _ (key n 8 []).symm
  case drain n => exact out _ _ (key n 9 []).symm
  case readCounters n g l c => exact out _ _ (key n 10 [g, l, c]).symm
  case restartTraffic n => exact out _ _ (key n 11 [0]).symm
  case restartFull n => exact out _ _ (key n 11 [1]).symm
  case unknownRequest n c => exact out _ _ (key n c []).symm

end Sys2Proof.Machine
end

