-- ==== Sys2Proof/Laws/Steps.lean ====
section
/-! SUPPORT. What notices and congestion judgements leave of the counters and of a return link that is busy, and where returned units go; the small lemmas of held entries and presence bits. -/

namespace Sys2Proof.Machine

/-! ### Returned units -/

/-- A returned chain joins the tail of the free list (04 R65). -/
@[simp] theorem State.returnChain_freeList (s : State) (ch : List UnitNo) :
    (s.returnChain ch).store.freeList = s.store.freeList ++ ch := by
  simp [State.returnChain]

/-- Several chains join the tail one after another. -/
theorem State.foldl_returnChain_freeList (ds : List Descriptor) (s : State) :
    (ds.foldl (fun t d => t.returnChain d.units) s).store.freeList = s.store.freeList ++ ds.flatMap Descriptor.units := by
  induction ds generalizing s with
  | nil => simp
  | cons d ds ih => simp [ih]

/-- What a chain's return leaves, it leaves over several chains. -/
theorem State.foldl_returnChain_frame (ds : List Descriptor) (s : State) :
    let t := ds.foldl (fun t d => t.returnChain d.units) s
    t.slots = s.slots ∧ t.threads = s.threads ∧ t.lanes = s.lanes ∧ t.store.octets = s.store.octets ∧
      t.aging = s.aging ∧ t.mode = s.mode ∧ t.engine = s.engine ∧ t.ret = s.ret ∧ t.counters = s.counters ∧
      t.pending = s.pending ∧ t.slotReports = s.slotReports ∧ t.orphanTally = s.orphanTally ∧
      t.controller = s.controller ∧ t.resetn = s.resetn ∧ t.building = s.building ∧ t.freeIndex = s.freeIndex ∧
      t.store.hysteresis = s.store.hysteresis := by
  induction ds generalizing s with
  | nil => simp
  | cons d ds ih =>
    have h := ih (s.returnChain d.units)
    simp at h
    simpa using h

/-! ### Counters beside the one an operation names -/

@[simp] theorem State.raise_counters_drops (s : State) (kind : NoticeKind) (t : Option ThreadId) (g : Option Tag) (n : Option LaneId) (c : Option (BitVec 16)) :
    (s.raise kind t g n c).counters.drops = s.counters.drops := by
  unfold State.raise; split
  · rfl
  · split <;> rfl
@[simp] theorem State.changeCongestion_counters_drops (s : State) (c : ClassId) (b : Bool) :
    (s.changeCongestion c b).counters.drops = s.counters.drops := rfl
@[simp] theorem State.judgeRise_counters_drops (s : State) (c : ClassId) :
    (s.judgeRise c).counters.drops = s.counters.drops := by
  unfold State.judgeRise; split <;> rfl
@[simp] theorem State.judgeFall_counters_drops (s : State) (c : ClassId) :
    (s.judgeFall c).counters.drops = s.counters.drops := by
  unfold State.judgeFall; split <;> rfl
@[simp] theorem State.settleClass_counters_drops (s : State) (c : ClassId) :
    (s.settleClass c).counters.drops = s.counters.drops := by
  unfold State.settleClass; split
  · simp
  · rfl
@[simp] theorem State.settleReturns_counters_drops (s : State) : s.settleReturns.counters.drops = s.counters.drops := by
  simp [State.settleReturns, classIds]
@[simp] theorem State.clearAtRebuild_counters_drops (s : State) (c : ClassId) :
    (s.clearAtRebuild c).counters.drops = s.counters.drops := by
  unfold State.clearAtRebuild; split <;> rfl
@[simp] theorem State.raise_counters_parcels (s : State) (kind : NoticeKind) (t : Option ThreadId) (g : Option Tag) (n : Option LaneId) (c : Option (BitVec 16)) :
    (s.raise kind t g n c).counters.parcels = s.counters.parcels := by
  unfold State.raise; split
  · rfl
  · split <;> rfl
@[simp] theorem State.changeCongestion_counters_parcels (s : State) (c : ClassId) (b : Bool) :
    (s.changeCongestion c b).counters.parcels = s.counters.parcels := rfl
@[simp] theorem State.judgeRise_counters_parcels (s : State) (c : ClassId) :
    (s.judgeRise c).counters.parcels = s.counters.parcels := by
  unfold State.judgeRise; split <;> rfl
@[simp] theorem State.judgeFall_counters_parcels (s : State) (c : ClassId) :
    (s.judgeFall c).counters.parcels = s.counters.parcels := by
  unfold State.judgeFall; split <;> rfl
@[simp] theorem State.settleClass_counters_parcels (s : State) (c : ClassId) :
    (s.settleClass c).counters.parcels = s.counters.parcels := by
  unfold State.settleClass; split
  · simp
  · rfl
@[simp] theorem State.settleReturns_counters_parcels (s : State) : s.settleReturns.counters.parcels = s.counters.parcels := by
  simp [State.settleReturns, classIds]
@[simp] theorem State.clearAtRebuild_counters_parcels (s : State) (c : ClassId) :
    (s.clearAtRebuild c).counters.parcels = s.counters.parcels := by
  unfold State.clearAtRebuild; split <;> rfl
@[simp] theorem State.raise_counters_lanes (s : State) (kind : NoticeKind) (t : Option ThreadId) (g : Option Tag) (n : Option LaneId) (c : Option (BitVec 16)) :
    (s.raise kind t g n c).counters.lanes = s.counters.lanes := by
  unfold State.raise; split
  · rfl
  · split <;> rfl
@[simp] theorem State.changeCongestion_counters_lanes (s : State) (c : ClassId) (b : Bool) :
    (s.changeCongestion c b).counters.lanes = s.counters.lanes := rfl
@[simp] theorem State.judgeRise_counters_lanes (s : State) (c : ClassId) :
    (s.judgeRise c).counters.lanes = s.counters.lanes := by
  unfold State.judgeRise; split <;> rfl
@[simp] theorem State.judgeFall_counters_lanes (s : State) (c : ClassId) :
    (s.judgeFall c).counters.lanes = s.counters.lanes := by
  unfold State.judgeFall; split <;> rfl
@[simp] theorem State.settleClass_counters_lanes (s : State) (c : ClassId) :
    (s.settleClass c).counters.lanes = s.counters.lanes := by
  unfold State.settleClass; split
  · simp
  · rfl
@[simp] theorem State.settleReturns_counters_lanes (s : State) : s.settleReturns.counters.lanes = s.counters.lanes := by
  simp [State.settleReturns, classIds]
@[simp] theorem State.clearAtRebuild_counters_lanes (s : State) (c : ClassId) :
    (s.clearAtRebuild c).counters.lanes = s.counters.lanes := by
  unfold State.clearAtRebuild; split <;> rfl

/-! ### The counters themselves -/

@[simp] theorem State.drops_bumpDrop_self (s : State) (c : DropCounter) : (s.bumpDrop c).drops c = s.drops c + 1 := by
  simp [State.drops, State.bumpDrop]
@[simp] theorem State.parcels_bumpDrop (s : State) (c : DropCounter) (x : ParcelCounter) : (s.bumpDrop c).parcels x = s.parcels x := rfl
@[simp] theorem State.device_bumpDrop (s : State) (c : DropCounter) (x : DeviceCounter) : (s.bumpDrop c).device x = s.device x := rfl
@[simp] theorem State.laneCounter_bumpDrop (s : State) (c : DropCounter) (n : LaneId) (x : LaneCounter) :
    (s.bumpDrop c).laneCounter n x = s.laneCounter n x := rfl
theorem State.drops_bumpDrop_ne (s : State) (c x : DropCounter) (h : x ≠ c) : (s.bumpDrop c).drops x = s.drops x := by
  have : c.index.val ≠ x.index.val := by
    intro e; apply h; revert e; cases c <;> cases x <;> decide
  simp [State.drops, State.bumpDrop, this]
@[simp] theorem State.parcels_bumpParcel_self (s : State) (c : ParcelCounter) : (s.bumpParcel c).parcels c = s.parcels c + 1 := by
  simp [State.parcels, State.bumpParcel]
@[simp] theorem State.drops_bumpParcel (s : State) (c : ParcelCounter) (x : DropCounter) : (s.bumpParcel c).drops x = s.drops x := rfl
@[simp] theorem State.device_bumpParcel (s : State) (c : ParcelCounter) (x : DeviceCounter) : (s.bumpParcel c).device x = s.device x := rfl
@[simp] theorem State.laneCounter_bumpParcel (s : State) (c : ParcelCounter) (n : LaneId) (x : LaneCounter) :
    (s.bumpParcel c).laneCounter n x = s.laneCounter n x := rfl
theorem State.parcels_bumpParcel_ne (s : State) (c x : ParcelCounter) (h : x ≠ c) : (s.bumpParcel c).parcels x = s.parcels x := by
  have : c.index.val ≠ x.index.val := by
    intro e; apply h; revert e; cases c <;> cases x <;> decide
  simp [State.parcels, State.bumpParcel, this]
@[simp] theorem State.device_bumpDevice_self (s : State) (c : DeviceCounter) : (s.bumpDevice c).device c = s.device c + 1 := by
  simp [State.device, State.bumpDevice]
@[simp] theorem State.drops_bumpDevice (s : State) (c : DeviceCounter) (x : DropCounter) : (s.bumpDevice c).drops x = s.drops x := rfl
@[simp] theorem State.parcels_bumpDevice (s : State) (c : DeviceCounter) (x : ParcelCounter) : (s.bumpDevice c).parcels x = s.parcels x := rfl
@[simp] theorem State.laneCounter_bumpDevice (s : State) (c : DeviceCounter) (n : LaneId) (x : LaneCounter) :
    (s.bumpDevice c).laneCounter n x = s.laneCounter n x := rfl
theorem State.device_bumpDevice_ne (s : State) (c x : DeviceCounter) (h : x ≠ c) : (s.bumpDevice c).device x = s.device x := by
  have : c.index.val ≠ x.index.val := by
    intro e; apply h; revert e; cases c <;> cases x <;> decide
  simp [State.device, State.bumpDevice, this]
@[simp] theorem State.laneCounter_bumpLane_self (s : State) (n : LaneId) (c : LaneCounter) (m : Nat) :
    (s.bumpLane n c m).laneCounter n c = s.laneCounter n c + BitVec.ofNat 32 m := by
  simp [State.laneCounter, State.bumpLane]
theorem State.laneCounter_bumpLane_ne (s : State) (n m : LaneId) (c x : LaneCounter) (k : Nat) (h : m ≠ n ∨ x ≠ c) :
    (s.bumpLane n c k).laneCounter m x = s.laneCounter m x := by
  by_cases hm : m = n
  · subst hm
    have : c.index.val ≠ x.index.val := by
      intro e; apply h.resolve_left (fun h => h rfl); revert e; cases c <;> cases x <;> decide
    simp [State.laneCounter, State.bumpLane, this]
  · have : n.val ≠ m.val := fun e => hm (Fin.ext e.symm)
    simp [State.laneCounter, State.bumpLane, this]
@[simp] theorem State.drops_bumpLane (s : State) (n : LaneId) (c : LaneCounter) (m : Nat) (x : DropCounter) :
    (s.bumpLane n c m).drops x = s.drops x := rfl
@[simp] theorem State.parcels_bumpLane (s : State) (n : LaneId) (c : LaneCounter) (m : Nat) (x : ParcelCounter) :
    (s.bumpLane n c m).parcels x = s.parcels x := rfl
@[simp] theorem State.device_bumpLane (s : State) (n : LaneId) (c : LaneCounter) (m : Nat) (x : DeviceCounter) :
    (s.bumpLane n c m).device x = s.device x := rfl
@[simp] theorem State.drops_raise (s : State) (kind : NoticeKind) (t : Option ThreadId) (g : Option Tag) (n : Option LaneId) (c : Option (BitVec 16)) (x : DropCounter) : (s.raise kind t g n c).drops x = s.drops x := by
  simp [State.drops]
@[simp] theorem State.parcels_raise (s : State) (kind : NoticeKind) (t : Option ThreadId) (g : Option Tag) (n : Option LaneId) (c : Option (BitVec 16)) (x : ParcelCounter) : (s.raise kind t g n c).parcels x = s.parcels x := by
  simp [State.parcels]
@[simp] theorem State.laneCounter_raise (s : State) (kind : NoticeKind) (t : Option ThreadId) (g : Option Tag) (n : Option LaneId) (c : Option (BitVec 16)) (m : LaneId) (x : LaneCounter) :
    (s.raise kind t g n c).laneCounter m x = s.laneCounter m x := by
  simp [State.laneCounter]
@[simp] theorem State.drops_settleReturns (s : State) (x : DropCounter) : (s.settleReturns).drops x = s.drops x := by
  simp [State.drops]
@[simp] theorem State.parcels_settleReturns (s : State) (x : ParcelCounter) : (s.settleReturns).parcels x = s.parcels x := by
  simp [State.parcels]
@[simp] theorem State.laneCounter_settleReturns (s : State) (m : LaneId) (x : LaneCounter) :
    (s.settleReturns).laneCounter m x = s.laneCounter m x := by
  simp [State.laneCounter]
@[simp] theorem State.drops_returnChain (s : State) (ch : List UnitNo) (x : DropCounter) : (s.returnChain ch).drops x = s.drops x := by
  simp [State.drops]
@[simp] theorem State.parcels_returnChain (s : State) (ch : List UnitNo) (x : ParcelCounter) : (s.returnChain ch).parcels x = s.parcels x := by
  simp [State.parcels]
@[simp] theorem State.laneCounter_returnChain (s : State) (ch : List UnitNo) (m : LaneId) (x : LaneCounter) :
    (s.returnChain ch).laneCounter m x = s.laneCounter m x := by
  simp [State.laneCounter]
@[simp] theorem State.drops_setSlot (s : State) (k : SlotId) (v : Slot) (x : DropCounter) : (s.setSlot k v).drops x = s.drops x := by
  simp [State.drops]
@[simp] theorem State.parcels_setSlot (s : State) (k : SlotId) (v : Slot) (x : ParcelCounter) : (s.setSlot k v).parcels x = s.parcels x := by
  simp [State.parcels]
@[simp] theorem State.laneCounter_setSlot (s : State) (k : SlotId) (v : Slot) (m : LaneId) (x : LaneCounter) :
    (s.setSlot k v).laneCounter m x = s.laneCounter m x := by
  simp [State.laneCounter]
@[simp] theorem State.drops_setLane (s : State) (k : LaneId) (v : Lane) (x : DropCounter) : (s.setLane k v).drops x = s.drops x := by
  simp [State.drops]
@[simp] theorem State.parcels_setLane (s : State) (k : LaneId) (v : Lane) (x : ParcelCounter) : (s.setLane k v).parcels x = s.parcels x := by
  simp [State.parcels]
@[simp] theorem State.laneCounter_setLane (s : State) (k : LaneId) (v : Lane) (m : LaneId) (x : LaneCounter) :
    (s.setLane k v).laneCounter m x = s.laneCounter m x := by
  simp [State.laneCounter]
@[simp] theorem State.drops_judgeRise (s : State) (k : ClassId) (x : DropCounter) : (s.judgeRise k).drops x = s.drops x := by
  simp [State.drops]
@[simp] theorem State.parcels_judgeRise (s : State) (k : ClassId) (x : ParcelCounter) : (s.judgeRise k).parcels x = s.parcels x := by
  simp [State.parcels]
@[simp] theorem State.laneCounter_judgeRise (s : State) (k : ClassId) (m : LaneId) (x : LaneCounter) :
    (s.judgeRise k).laneCounter m x = s.laneCounter m x := by
  simp [State.laneCounter]

/-! ### A busy return link -/

/-- While a shard is on the link the arbiter chooses nothing (10 R152). -/
theorem State.arbitrate_busy (s : State) (h : s.ret.onLink.isSome = true) : s.arbitrate = s := by
  have := ReturnLink.arbitrate_busy s.ret s.store.congestionContent h
  simp only [State.arbitrate, this]

/-- A notice raised while a shard is on the link and the queue has room joins its tail (10 R156, R157). -/
theorem State.raise_busy (s : State) (kind : NoticeKind) (t : Option ThreadId) (g : Option Tag) (n : Option LaneId)
    (c : Option (BitVec 16)) (h : s.ret.onLink.isSome = true) (hm : s.ret.noticeMask.getLsbD kind.code = true)
    (hl : s.ret.notices.length < 16) :
    s.raise kind t g n c = { s with ret := { s.ret with
      notices := s.ret.notices ++ [⟨kind, t, g, n, c, s.aging.periodNo, s.ret.lostNotices⟩], lostNotices := 0 } } := by
  have hl' : ¬ s.ret.notices.length ≥ Config.noticePlaces := Nat.not_le.mpr hl
  unfold State.raise
  rw [if_neg (by simp [hm]), if_neg hl']
  exact State.arbitrate_busy _ h

/-- What a congestion change leaves of the return link: its notices, replies, sequence and shard where a shard is on the
link, and the lost-notice count and the mask always. -/
structure ReturnLink.undisturbed (r r' : ReturnLink) : Prop where
  lost : r'.lostNotices = r.lostNotices
  mask : r'.noticeMask = r.noticeMask
  busy : r.onLink.isSome = true → r'.notices = r.notices ∧ r'.replies = r.replies ∧ r'.sequence = r.sequence ∧
    r'.onLink = r.onLink ∧ r'.fullRestartHold = r.fullRestartHold

theorem ReturnLink.undisturbed_refl (r : ReturnLink) : r.undisturbed r := ⟨rfl, rfl, fun _ => ⟨rfl, rfl, rfl, rfl, rfl⟩⟩

theorem ReturnLink.undisturbed_trans {r r' r'' : ReturnLink} (h : r.undisturbed r') (h' : r'.undisturbed r'') :
    r.undisturbed r'' := by
  refine ⟨h'.lost.trans h.lost, h'.mask.trans h.mask, fun hb => ?_⟩
  obtain ⟨a, b, c, d, e⟩ := h.busy hb
  obtain ⟨a', b', c', d', e'⟩ := h'.busy (by rw [d]; exact hb)
  exact ⟨a'.trans a, b'.trans b, c'.trans c, d'.trans d, e'.trans e⟩

theorem State.changeCongestion_undisturbed (s : State) (c : ClassId) (b : Bool) :
    s.ret.undisturbed (s.changeCongestion c b).ret := by
  refine ⟨?_, ?_, fun h => ?_⟩
  · exact ReturnLink.arbitrate_lostNotices { s.ret with congestionPending := true } _
  · exact ReturnLink.arbitrate_noticeMask { s.ret with congestionPending := true } _
  · have e : (s.changeCongestion c b).ret = { s.ret with congestionPending := true } :=
      ReturnLink.arbitrate_busy { s.ret with congestionPending := true } _ h
    rw [e]; exact ⟨rfl, rfl, rfl, rfl, rfl⟩

theorem State.judgeRise_undisturbed (s : State) (c : ClassId) : s.ret.undisturbed (s.judgeRise c).ret := by
  unfold State.judgeRise
  split
  · exact State.changeCongestion_undisturbed s c true
  · exact ReturnLink.undisturbed_refl _

theorem State.judgeFall_undisturbed (s : State) (c : ClassId) : s.ret.undisturbed (s.judgeFall c).ret := by
  unfold State.judgeFall
  split
  · exact State.changeCongestion_undisturbed s c false
  · exact ReturnLink.undisturbed_refl _

theorem State.settleClass_undisturbed (s : State) (c : ClassId) : s.ret.undisturbed (s.settleClass c).ret := by
  unfold State.settleClass
  split
  · exact State.judgeFall_undisturbed (s.setCls c { s.cls c with fallOwed := false }) c
  · exact ReturnLink.undisturbed_refl _

theorem State.settleReturns_undisturbed (s : State) : s.ret.undisturbed s.settleReturns.ret := by
  have h := State.settleClass_undisturbed
  exact ReturnLink.undisturbed_trans (h s 0) (ReturnLink.undisturbed_trans (h _ 1)
    (ReturnLink.undisturbed_trans (h _ 2) (h _ 3)))

/-- A notice raised on a busy link leaves it busy, with a tail that only grows. -/
theorem State.raise_onLink (s : State) (kind : NoticeKind) (t : Option ThreadId) (g : Option Tag) (n : Option LaneId)
    (c : Option (BitVec 16)) (h : s.ret.onLink.isSome = true) : (s.raise kind t g n c).ret.onLink = s.ret.onLink := by
  unfold State.raise
  split
  · rfl
  · split
    · rfl
    · rw [State.arbitrate_busy _ (by exact h)]; rfl

/-! ### Settled states -/

/-- With no judgement owed there is nothing to settle (log entry 6). -/
theorem State.settleReturns_of_owed (s : State) (h : ∀ c, (s.cls c).fallOwed = false) : s.settleReturns = s := by
  have e : ∀ c, s.settleClass c = s := fun c => by unfold State.settleClass; rw [if_neg (by simp [h c])]
  simp [State.settleReturns, classIds, e]

/-! ## Held entries and presence bits, as the claims speak of them -/

@[simp] theorem unitsOf_nil : unitsOf [] = [] := rfl

@[simp] theorem unitsOf_cons (e : EarlyEntry) (rest : List EarlyEntry) : unitsOf (e :: rest) = e.unit :: unitsOf rest := rfl

@[simp] theorem State.checkOver_nil (s : State) (check : BitVec 32) : s.checkOver check [] = check := rfl

@[simp] theorem State.checkOver_cons (s : State) (check : BitVec 32) (e : EarlyEntry) (rest : List EarlyEntry) :
    s.checkOver check (e :: rest) = s.checkOver (parcelCheckUpdate check (s.unitOctets e.unit)) rest := rfl

@[simp] theorem notDue_nil (x : Seq) : notDue x [] := by simp [notDue]

@[simp] theorem notDue_cons (x : Seq) (e : EarlyEntry) (rest : List EarlyEntry) : notDue x (e :: rest) ↔ e.seq ≠ x := by
  simp [notDue]

/-- A presence bit stands at its own bit position only. -/
theorem presenceBit_getLsbD (b : Bool) (i j : Nat) (hi : i < 8) (hj : j < 8) :
    (presenceBit i b).getLsbD j = (b && decide (i = j)) := by
  cases b
  · simp [presenceBit]
  · have h : ∀ i j : Fin 8, (presenceBit i.val true).getLsbD j.val = (true && decide (i.val = j.val)) := by decide
    exact h ⟨i, hi⟩ ⟨j, hj⟩

end Sys2Proof.Machine
end

