-- ==== Sys2Proof/WellFormed.lean ====
section
/-! DEFINITION. Which commands are well formed: the two rows of the opcode table whose operand must lie outside the values that other rows name. -/

namespace Sys2Proof

/-- The setting indices that have no row of their own: IDENT, STATUS, DRAIN_LIMIT, NOTICE_MASK, OCCUPANCY and every
index outside 0–19 (the WRITE_SETTING row of the opcode table, 08 R126). -/
def settingWithoutOwnRow (index : Byte) : Bool :=
  index == 0 || index == 1 || index == 4 || index == 14 || index == 19 || decide (20 ≤ index.toNat)

/-- The codes of the eleven requests (11 R164). -/
def requestCodeKnown (code : Byte) : Bool :=
  decide (1 ≤ code.toNat) && decide (code.toNat ≤ 11)

/-- A command is well formed when its operands are ones its row speaks of. Every other operand value is well formed,
since the rules give the status that answers it. -/
def Instr.wellFormed : Instr → Bool
  | .writeSetting _ index _ => settingWithoutOwnRow index
  | .unknownRequest _ code => !requestCodeKnown code
  | .resetnAssert => true
  | .resetnRelease => true
  | .endOfStartUp => true
  | .shardArrival _ => true
  | .closeJudgement => true
  | .grant _ _ => true
  | .emissionEnd _ => true
  | .stallExpiry _ => true
  | .periodExpiry => true
  | .scanVisit => true
  | .drainTimerExpiry => true
  | .returnShardEnd => true
  | .readSetting _ _ => true
  | .writeController _ _ => true
  | .writePeriod _ _ => true
  | .writeQuota _ _ _ => true
  | .writeWarn _ _ _ => true
  | .writeHysteresis _ _ => true
  | .writeStall _ _ _ => true
  | .readThread _ _ => true
  | .writeThread _ _ _ _ _ _ _ _ _ _ => true
  | .readSlot _ _ => true
  | .cutSkip _ _ _ => true
  | .cutRelease _ _ _ => true
  | .laneStart _ _ => true
  | .laneStop _ _ => true
  | .laneFlush _ _ => true
  | .openDevice _ => true
  | .drain _ => true
  | .readCounters _ _ _ _ => true
  | .restartTraffic _ => true
  | .restartFull _ => true

end Sys2Proof
end

