-- ==== Sys2Proof/Tests/Slice0.lean ====
section
/-! SUPPORT. Tests of one step each, their expected results taken from the data book's worked examples and tables, and for every obligation with hypotheses a witness: concrete states and operands that meet them. -/

namespace Sys2Proof.Tests

set_option Elab.async false

open Sys2Proof Sys2Proof.Machine

/-! ## Helpers -/

/-- The state after a command. -/
def after (c : Instr) (s : State) : State :=
  match exec c s with
  | .next t => t
  | .fault _ => s
  | .refused _ => s

/-- A part in RUN with nothing in it: every unit free, the period timer running. -/
def bench : State := { State.reset with
  resetn := false
  mode := .run
  store := { State.reset.store with freeList := builtFreeList }
  aging := { State.reset.aging with timer := some 1000 } }

/-- A notice already on the return link or waiting for it. -/
def someNotice : Notice := ⟨.started, none, none, none, none, 0, 0⟩

/-- The return link SENDING a notice that began with sequence 36 (10, the example). -/
def busyLink (s : State) : State := { s with ret := { s.ret with onLink := some ⟨36, .notice someNotice⟩, sequence := 37 } }

/-- The 64 octets of a shard from octets 0 to 5 and its payload, with its header check. -/
def checkedShard (six payload : List Byte) : Vector Byte 64 :=
  Vector.ofFn fun i => (six ++ fieldOctets (headerCheck six) ++ payload).getD i.val 0

/-- The octets of a data shard (11 11.1). -/
def dataOctets (source stream marks seq fill : Byte) (tag : Tag) (payload : List Byte) : Vector Byte 64 :=
  checkedShard ([0x40 ||| source, (stream <<< 4) ||| marks, seq, fill] ++ fieldOctets tag) payload

/-- The octets of a management shard. -/
def managementOctets (source : Byte) (payload : List Byte) : Vector Byte 64 :=
  checkedShard [0x80 ||| source, 0, 0, 0, 0, 0] payload

/-- The marks F and L in octet 1. -/
def markF : Byte := 0x08
def markL : Byte := 0x04

/-- A thread's configuration, with the fields the examples name. -/
def config (cls : ClassId) (lane : LaneId) (limit window timeout : Nat) (retain : Bool) : ThreadConfig :=
  { enabled := true, cls := cls, lane := lane, limit := limit, window := window, timeout := timeout, retain := retain,
    verify := true }

/-- A slot bound to an enabled thread. -/
def bound (s : State) (k : SlotId) (t : ThreadId) (c : ThreadConfig) (sl : Slot) : State :=
  (s.setThread t ⟨c, none, some k⟩).setSlot k sl

/-- Units in numeric order taken out of the free list and counted to a class. -/
def claimedUnits (s : State) (c : ClassId) (n : Nat) : State :=
  let s1 := { s with store := { s.store with
    freeList := s.store.freeList.drop n
    unitClass := (numericUnits n 0).foldl (fun v (u : UnitNo) => v.set u.val (some c)) s.store.unitClass } }
  s1.setCls c { s1.cls c with usage := n }

/-- A sealed parcel's descriptor. -/
def parcel (lane : LaneId) (length : Nat) (units : List UnitNo) : Descriptor :=
  { thread := 148, tag := 0x0B10, cls := 2, lane := lane, length := length, units := units, completionPeriod := 0 }

/-- A parcel in progress. -/
def progress (start expected : Seq) (tag : Option Tag) (placed : List UnitNo) (early : List EarlyEntry)
    (lastHeld : Option Nat) : Assembly :=
  { expected := expected, parcelStart := start, parcelTag := tag, placed := placed, check := parcelCheckInit,
    early := early, lastHeld := lastHeld }

/-! ## Checks and formats -/

/-- 11 R163: the check of "123456789". -/
theorem test_headerCheck_known_answer :
    headerCheck [0x31, 0x32, 0x33, 0x34, 0x35, 0x36, 0x37, 0x38, 0x39] = 0x29B1 := by decide +kernel

/-- 11 R166: the result over "123456789" and its trailer. -/
theorem test_parcelCheck_known_answer :
    parcelCheckFinal (parcelCheckUpdate parcelCheckInit [0x31, 0x32, 0x33, 0x34, 0x35, 0x36, 0x37, 0x38, 0x39]) =
      trailerValue [0x83, 0x92, 0x06, 0xE3] ∧ trailerValue [0x83, 0x92, 0x06, 0xE3] = 0xE3069283 := by decide +kernel

/-- 11 11.4, R34: the trailer of a parcel of one octet begins at octet 1 of its L shard. Over the octet 0x00 the result is
0x527D5351 (worked out outside the model, bit by bit from R166). -/
theorem test_trailer_of_a_one_octet_parcel :
    let s := { bench with store := { bench.store with octets := Memory.writeAll [] 0 [0x00, 0x51, 0x53, 0x7D, 0x52] } }
    let t := { bench with store := { bench.store with octets := Memory.writeAll [] 0 [0x00, 0x52, 0x7D, 0x53, 0x51] } }
    let check := parcelCheckUpdate parcelCheckInit [0x00]
    s.trailerMatches true check ⟨0, 0, 0, true, true, 5⟩ = true ∧
      t.trailerMatches true check ⟨0, 0, 0, true, true, 5⟩ = false ∧
      t.trailerMatches false check ⟨0, 0, 0, true, true, 5⟩ = true := by decide +kernel

/-- 11 R167: the lane header of thread 148, tag 0x0B10, class 2, length 184 (02, the example). -/
theorem test_laneHeader_octets :
    (parcel 1 184 []).header = [0x00, 0x94, 0x0B, 0x10, 0x02, 0x00, 0x00, 0xB8] := by decide +kernel

/-! ## Well-formedness -/

/-- WRITE_SETTING has rows of its own for PERIOD (index 3); the general row is for the others. -/
theorem test_writeSetting_of_an_index_with_a_row_is_ill_formed :
    (Instr.writeSetting 0 3 5).wellFormed = false ∧ (Instr.writeSetting 0 14 5).wellFormed = true := by decide +kernel

/-- Code 5 is READ_SLOT, so it is no unknown request; code 12 is one. -/
theorem test_unknownRequest_with_a_known_code_is_ill_formed :
    (Instr.unknownRequest 0 5).wellFormed = false ∧ (Instr.unknownRequest 0 12).wellFormed = true := by decide +kernel

/-! ## Events -/

/-- 09 R140, 04 R64: settings and tables at their RESETN values, the octets of the units kept. -/
theorem test_resetnAssert_restores_settings_and_keeps_octets :
    let t := after .resetnAssert { bench with
      controller := 5, orphanTally := 7, store := { bench.store with octets := [(3, 9)], hysteresis := 4 } }
    t.mode = .starting ∧ t.controller = 0 ∧ t.orphanTally = 0 ∧ t.store.hysteresis = 256 ∧
      t.store.octets = [(3, 9)] ∧ t.store.freeList = [] ∧ t.aging.timer = none := by decide +kernel

/-- 09 R140: start-up begins in STARTING. -/
theorem test_resetnRelease_begins_startUp :
    let t := after .resetnRelease State.reset
    t.resetn = false ∧ t.building = true ∧ t.mode = .starting := by decide +kernel

/-- 09 R141, 04 R79: the free list from unit 0, the STARTED notice first on the link with sequence 0. -/
theorem test_endOfStartUp_opens_the_links :
    let t := after .endOfStartUp (after .resetnRelease State.reset)
    t.mode = .init ∧ t.store.freeList.take 3 = [0, 1, 2] ∧ t.aging.timer = some 1000 ∧
      t.ret.onLink = some ⟨0, .notice someNotice⟩ ∧ t.ret.sequence = 1 := by decide +kernel

/-- The state of 12.1 before the arrival of shard 10: entries 11 (L, fill 56), 12 (F) and 13 (L, fill 10) held. Here the
thread does not verify, so that the trailers (tested above) need not be computed over 170 octets. -/
def twoParcels : State :=
  bound (claimedUnits bench 0 3) 2 17 { config 0 0 4 5 10 true with verify := false }
    (.assembling 17 0 (progress 10 10 none []
      [⟨11, 0, 0x0A00, false, true, 56⟩, ⟨12, 1, 0x0A01, true, false, 0⟩, ⟨13, 2, 0x0A01, false, true, 10⟩] (some 1)))

/-- 12.1: shard 10 completes parcel A and, by the drain, parcel B. -/
theorem test_shardArrival_seals_two_parcels_in_one_arrival :
    let t := after (.shardArrival (dataOctets 1 1 markF 10 0 0x0A00 [])) twoParcels
    t.slot 2 = .resting 17 0 14 ∧ (t.lane 0).queue.map Descriptor.length = [108, 62] ∧
      (t.lane 0).queue.map Descriptor.units = [[3, 0], [1, 2]] ∧ t.parcels .sealed = 2 ∧ (t.cls 0).usage = 4 ∧
      t.slotReports = 1 := by decide +kernel

/-- The state of 12.4 before shard 56: class 2 CONGESTED at its quota of 10, six of its units in slot 15. -/
def quotaEdge : State :=
  let s := busyLink (bound (claimedUnits bench 2 10) 15 112 (config 2 3 160 2 10 false)
    (.assembling 112 0 (progress 50 56 (some 0x7000) [4, 5, 6, 7, 8, 9] [] none)))
  { s.setCls 2 ⟨10, 10, 8, true, false⟩ with store := { (s.setCls 2 ⟨10, 10, 8, true, false⟩).store with hysteresis := 4 } }

/-- 12.4: QUOTA poisons the parcel, its six units go back, and class 2 becomes CLEAR at usage 4. -/
theorem test_shardArrival_quota_poison_clears_the_class :
    let t := after (.shardArrival (dataOctets 7 0 0 56 0 0x7000 [])) quotaEdge
    t.slot 15 = .skipping 112 0 (some 0x7000) .quota ∧ (t.cls 2).usage = 4 ∧ (t.cls 2).congested = false ∧
      t.parcels .quota = 1 ∧ t.device .congestionChanges = 1 ∧ t.ret.congestionPending = true ∧
      t.ret.notices = [⟨.quota, some 112, some 0x7000, none, none, 0, 0⟩] := by decide +kernel

/-- The engine WORKING on DRAIN request 100 in CLOSING, lane 0 SENDING (08, the example, event 5). -/
def draining : State :=
  let s := busyLink { bench with
    mode := .closing
    slotReports := 1
    engine := { bench.engine with
      inProgress := some ⟨100, 0x09, []⟩, reserved := true, drainTimer := some 500 } }
  s.setLane 0 { s.lane 0 with state := .sending, emission := some (parcel 0 100 [1, 2]), credit := 100 }

/-- 08, the example, event 5: the report closes the device, and lane 0 still holds the drain. -/
theorem test_closeJudgement_closes_and_keeps_draining :
    let t := after .closeJudgement draining
    t.mode = .closed ∧ t.engine.inProgress.isSome = true ∧ t.slotReports = 0 := by decide +kernel

/-- Descriptors A, B and C of the example of chapter 06. -/
def lanesA : Descriptor := parcel 1 1000 (numericUnits 18 0)
def lanesB : Descriptor := parcel 1 8956 (numericUnits 160 18)
def lanesC : Descriptor := parcel 1 184 (numericUnits 4 178)

/-- Lane 1 of that example, in a state of one of its rows. -/
def laneRow (state : LaneState) (queue : List Descriptor) (emission : Option Descriptor) (credit : Nat)
    (timer : Option Nat) : State :=
  bench.setLane 1 ⟨state, queue, emission, credit, timer, 100, .none⟩

/-- 06, the example: a grant of 60 leaves 114 below B's 140, and the timer runs on. -/
theorem test_grant_too_small_leaves_the_lane_waiting :
    (after (.grant 1 60) (laneRow .waiting [lanesB, lanesC] none 54 (some 100))).lane 1 =
      ⟨.waiting, [lanesB, lanesC], none, 114, some 100, 100, .none⟩ := by decide +kernel

/-- 06, the example: a grant of 4000 on 111 saturates and is counted. The word's upper four bits are ignored. -/
theorem test_grant_saturates_at_4095 :
    let t := after (.grant 1 (0xF000 + 4000)) (laneRow .sending [] (some lanesC) 111 none)
    (t.lane 1).credit = 4095 ∧ t.laneCounter 1 .grantOverflow = 1 := by decide +kernel

/-- 06, the example: the end of A with credit 54 below B's 140. -/
theorem test_emissionEnd_judges_the_next_head :
    let t := after (.emissionEnd 1) (laneRow .sending [lanesB, lanesC] (some lanesA) 54 none)
    (t.lane 1).state = .waiting ∧ (t.lane 1).stallTimer = some 100 ∧ (t.lane 1).emission = none ∧
      t.laneCounter 1 .emitted = 1 := by decide +kernel

/-- 06, the example: the end of C in STOPPING. -/
theorem test_emissionEnd_in_stopping_stops :
    let t := after (.emissionEnd 1) (laneRow .stopping [] (some lanesC) 4095 none)
    (t.lane 1).state = .stopped ∧ (t.lane 1).credit = 4095 ∧ t.laneCounter 1 .emitted = 1 := by decide +kernel

/-- 06, the example: B is discarded and C starts. -/
theorem test_stallExpiry_discards_the_head :
    let t := after (.stallExpiry 1) (busyLink (laneRow .waiting [lanesB, lanesC] none 114 (some 100)))
    (t.lane 1).state = .sending ∧ (t.lane 1).emission = some lanesC ∧ (t.lane 1).credit = 111 ∧
      t.laneCounter 1 .stalled = 1 ∧
      t.ret.notices = [⟨.stalled, some 148, some 0x0B10, some 1, some 0, 0, 0⟩] := by decide +kernel

/-- 05, the example: an expiry in a scan with an expiry pending is merged. -/
theorem test_periodExpiry_merged :
    let t := after .periodExpiry { bench with
      aging := { timer := some 1, periodNo := 501, cursor := some 5, expiryPending := true, period := 1 } }
    t.aging.periodNo = 502 ∧ t.aging.cursor = some 5 ∧ t.aging.expiryPending = true ∧ t.device .agingOverrun = 1 := by
  decide +kernel

/-- 05 R83: 65 535 is followed by 0, and in IDLE a scan begins at slot 0. -/
theorem test_periodExpiry_wraps :
    let t := after .periodExpiry { bench with aging := { bench.aging with periodNo := 65535 } }
    t.aging.periodNo = 0 ∧ t.aging.cursor = some 0 := by decide +kernel

/-- The scan of the example of chapter 05, at a slot. -/
def scanning (s : State) (k : SlotId) (now : PeriodNo) : State :=
  busyLink { s with aging := { bench.aging with periodNo := now, cursor := some k, expiryPending := true } }

/-- 05, the example: slot 4 is reaped at age 3, its four units go back. -/
theorem test_scanVisit_reaps_at_the_timeout :
    let s := bound (claimedUnits bench 0 4) 4 37 (config 0 0 160 1 3 false)
      (.assembling 37 497 (progress 0 3 (some 0x0120) [0, 1, 2] [⟨4, 3, 0x0120, false, false, 0⟩] none))
    let t := after .scanVisit (scanning s 4 500)
    t.slot 4 = .free ∧ (t.thread 37).binding = none ∧ (t.cls 0).usage = 0 ∧ t.aging.cursor = some 5 ∧
      t.parcels .reaped = 1 ∧ t.ret.notices = [⟨.reaped, some 37, some 0x0120, none, some 3, 500, 0⟩] := by
  decide +kernel

/-- 05, the example: after slot 95 the pending expiry begins a new scan. -/
theorem test_scanVisit_ends_the_scan :
    let t := after .scanVisit (scanning bench 95 503)
    t.aging.cursor = some 0 ∧ t.aging.expiryPending = false := by decide +kernel

/-- 12.5 before the drain timer's expiry: DRAIN 200 in progress, READ_SETTING of STATUS and OPEN waiting, slot 11
ASSEMBLING, two descriptors on lane 1. -/
def timedOut : State :=
  let s := bound (busyLink bench) 11 153 (config 0 0 160 0 50 false)
    (.assembling 153 300 (progress 0 4 (some 1) [0, 1, 2, 3] [] none))
  let s1 := s.setLane 1 { s.lane 1 with queue := [parcel 1 100 [4, 5], parcel 1 10 [6]] }
  { s1 with mode := .closing, engine := { s1.engine with
      queue := [requestWith 201 0x01 [1], requestWith 202 0x08 []]
      inProgress := some (requestWith 200 0x09 []), reserved := true, drainTimer := some 20 } }

/-- 12.5: TIMEOUT with one slot and two descriptors, then STATUS with one request behind it, then RUN. -/
theorem test_drainTimerExpiry_times_out_and_serves :
    let t := after .drainTimerExpiry timedOut
    t.mode = .run ∧ t.engine.inProgress = none ∧ t.engine.queue = [] ∧
      t.ret.replies = [⟨200, 0x09, .timeout, .drain .closing 1 2⟩,
        ⟨201, 0x01, .done, .deviceStatus .closing 0 false false 1⟩, ⟨202, 0x08, .done, .mode .run⟩] := by
  decide +kernel

/-- 10, the example, event 8: with a congestion status, a reply and notices waiting, the congestion shard begins. -/
theorem test_returnShardEnd_sends_congestion_first :
    let s := busyLink bench
    let t := after .returnShardEnd { s with ret := { s.ret with
      congestionPending := true, replies := [⟨1, 0x08, .done, .mode .run⟩], notices := List.replicate 16 someNotice } }
    t.ret.onLink = some ⟨37, .congestion [false, false, false, false] [0, 0, 0, 0]⟩ ∧ t.ret.sequence = 38 ∧
      t.ret.replies.length = 1 ∧ t.ret.notices.length = 16 := by decide +kernel

/-- 10, the example, event 10: the head notice begins once no congestion status and no reply waits. -/
theorem test_returnShardEnd_sends_notices_last :
    let s := busyLink bench
    let t := after .returnShardEnd { s with ret := { s.ret with sequence := 39, notices := List.replicate 16 someNotice } }
    t.ret.onLink = some ⟨39, .notice someNotice⟩ ∧ t.ret.sequence = 40 ∧ t.ret.notices.length = 15 := by decide +kernel

/-! ## Requests -/

/-- 11 R165: the octets of the reply to a READ_SETTING of IDENT. -/
theorem test_readSetting_ident_octets :
    ((after (.readSetting 0x1234 0) bench).returnOctets.map (List.take 10)) =
      some [0x01, 0x00, 0x12, 0x34, 0x01, 0x00, 0x32, 0x08, 0x01, 0x00] := by decide +kernel

/-- 08 R125: an index outside 0 to 19. -/
theorem test_readSetting_unknown_index :
    (after (.readSetting 7 20) (busyLink bench)).ret.replies = [⟨7, 0x01, .unknown, .empty⟩] := by decide +kernel

/-- 11 R164: bit 15 of a NOTICE_MASK names no kind. -/
theorem test_writeSetting_noticeMask_bit15 :
    let t := after (.writeSetting 7 14 0x8001) (busyLink bench)
    t.ret.noticeMask = 0x7FFF ∧ t.ret.replies = [⟨7, 0x02, .range, .empty⟩] := by decide +kernel

/-- 08 R126: DRAIN_LIMIT, index 4. -/
theorem test_writeSetting_drainLimit :
    (after (.writeSetting 7 4 20) (busyLink bench)).engine.drainLimit = 20 := by decide +kernel

/-- 11 11.6: CONTROLLER takes 63 and not 64. -/
theorem test_writeController_range :
    (after (.writeController 7 63) bench).controller = 63 ∧ (after (.writeController 7 64) bench).controller = 0 := by
  decide +kernel

/-- 05, the example: the period in progress keeps 1000 us. -/
theorem test_writePeriod_keeps_the_period_in_progress :
    let t := after (.writePeriod 7 1) bench
    t.aging.period = 1 ∧ t.aging.timer = some 1000 := by decide +kernel

/-- Class 3 of the example of chapter 04 after step 1 or 3: usage 1000, CONGESTED. -/
def loaded (warn : Nat) (congested : Bool) : State :=
  busyLink (bench.setCls 3 ⟨1000, 2048, warn, congested, false⟩)

/-- 04, the example, steps 2 and 4: 800 is below WARN3 900, and not below 700. -/
theorem test_writeQuota_not_below_warn :
    ((after (.writeQuota 7 3 800) (loaded 900 true)).cls 3).quota = 2048 ∧
      ((after (.writeQuota 7 3 800) (loaded 700 true)).cls 3).quota = 800 := by decide +kernel

/-- 04, the example, step 1: 1000 is at least 900. -/
theorem test_writeWarn_makes_the_class_congested :
    let t := after (.writeWarn 7 3 900) (loaded 1536 false)
    (t.cls 3).congested = true ∧ t.ret.congestionPending = true ∧ t.device .congestionChanges = 1 := by decide +kernel

/-- 04, the example, step 3: 1000 is above the clear level 444. -/
theorem test_writeWarn_stays_congested_above_the_clear_level :
    ((after (.writeWarn 7 3 700) (loaded 900 true)).cls 3).congested = true := by decide +kernel

/-- 04 R77, R78: with HYSTERESIS 0 the clear level is WARN3 itself, so a CONGESTED class below it becomes CLEAR. -/
theorem test_writeHysteresis_rejudges :
    ((after (.writeHysteresis 7 0) (loaded 1001 true)).cls 3).congested = false ∧
      (after (.writeHysteresis 7 1025) (loaded 1001 true)).store.hysteresis = 256 := by decide +kernel

/-- 06 R99: a write of STALL changes no running timer. -/
theorem test_writeStall_leaves_the_running_timer :
    let t := after (.writeStall 7 1 0) (laneRow .waiting [lanesB] none 54 (some 100))
    (t.lane 1).stallLimit = 0 ∧ (t.lane 1).stallTimer = some 100 := by decide +kernel

/-- 03 R49, 11 R165: the octets of a READ_THREAD reply for a thread at its defaults. -/
theorem test_readThread_default_octets :
    ((after (.readThread 1 1023) bench).returnOctets.map (fun os => (os.drop 6).take 19)) =
      some [0, 0, 0, 160, 0, 10, 0, 1, 0, 0, 0, 0, 0, 0, 0, 0, 0, 0xFF, 0] := by decide +kernel

/-- Thread 327 of the example of chapter 03: write A pending, a parcel in progress in slot 30. -/
def written : State :=
  let s := bound (busyLink bench) 30 327 (config 1 2 160 4 10 true)
    (.assembling 327 0 (progress 100 101 (some 0x5C00) [0] [] none))
  s.setThread 327 { s.thread 327 with pending := some (config 3 2 160 2 10 true) }

/-- 03, the example: write B replaces write A whole, and the active configuration stays. -/
theorem test_writeThread_replaces_the_pending_configuration :
    let t := after (.writeThread 7 327 1 3 0 160 2 10 0 1) written
    (t.thread 327).pending = some (config 3 0 160 2 10 false) ∧ (t.thread 327).active = config 1 2 160 4 10 true ∧
      t.ret.replies = [⟨7, 0x04, .replaced, .empty⟩] := by decide +kernel

/-- 03 R53: a limit of 161 fails the write. -/
theorem test_writeThread_range :
    let t := after (.writeThread 7 5 1 0 0 161 0 10 0 1) (busyLink bench)
    (t.thread 5).active.enabled = false ∧ t.ret.replies = [⟨7, 0x04, .range, .empty⟩] := by decide +kernel

/-- 12.2, 11 R165: the octets of a READ_SLOT reply for slot 6. -/
theorem test_readSlot_octets :
    let s := bound bench 6 50 (config 1 0 160 0 2 true)
      (.assembling 50 700 (progress 20 23 (some 0x3300) [0, 1, 2] [] none))
    ((after (.readSlot 1 6) s).returnOctets.map (fun os => (os.drop 6).take 10)) =
      some [0x01, 0x2F, 0x00, 0x32, 23, 20, 0x33, 0x00, 3, 0] := by decide +kernel

/-- 08 R127: slot 96 does not exist. -/
theorem test_readSlot_range :
    (after (.readSlot 7 96) (busyLink bench)).ret.replies = [⟨7, 0x05, .range, .empty⟩] := by decide +kernel

/-- Source 1 with thread 17 RESTING in slot 2 and thread 18 ASSEMBLING in slot 3, no shard of it placed yet. -/
def cuttable : State :=
  bound (bound (busyLink bench) 2 17 (config 0 0 160 4 10 true) (.resting 17 5 10)) 3 18 (config 0 0 160 4 10 true)
    (.assembling 18 5 (progress 0 0 none [] [⟨1, 0, 7, false, false, 0⟩] none))

/-- 08 R129: SKIP poisons the ASSEMBLING slot of the source, with no skip tag, and leaves the RESTING one. -/
theorem test_cutSkip_of_a_source :
    let t := after (.cutSkip 7 1 1) cuttable
    t.slot 2 = .resting 17 5 10 ∧ t.slot 3 = .skipping 18 5 none .cut ∧
      t.ret.replies = [⟨7, 0x06, .done, .cut 1 0⟩] := by decide +kernel

/-- 08 R130: RELEASE of a RESTING slot cuts no parcel, so the status is NOTHING. -/
theorem test_cutRelease_of_a_resting_thread :
    let t := after (.cutRelease 7 0 17) cuttable
    t.slot 2 = .free ∧ (t.thread 17).binding = none ∧ t.parcels .cut = 0 ∧
      t.ret.replies = [⟨7, 0x06, .nothing, .cut 0 1⟩] := by decide +kernel

/-- 12.1: after a LANE START with 2 blocks of credit, A of 108 octets is emitted. -/
theorem test_laneStart_starts_the_head :
    let t := after (.laneStart 7 1) (laneRow .stopped [parcel 1 108 [0, 1], parcel 1 62 [2, 3]] none 2 none)
    (t.lane 1).state = .sending ∧ (t.lane 1).emission = some (parcel 1 108 [0, 1]) ∧ (t.lane 1).credit = 0 := by
  decide +kernel

/-- 06, the example: LANE STOP with a frame in flight. -/
theorem test_laneStop_with_a_frame_in_flight :
    (after (.laneStop 7 1) (laneRow .sending [] (some lanesC) 4095 none)).lane 1 =
      ⟨.stopping, [], some lanesC, 4095, none, 100, .none⟩ := by decide +kernel

/-- 10, the example, event 4: a masked FLUSHED notice is discarded and not lost, and four are counted. -/
theorem test_laneFlush_masked :
    let s := busyLink (laneRow .waiting (List.replicate 4 lanesC) none 0 (some 100))
    let t := after (.laneFlush 7 1) { s with ret := { s.ret with noticeMask := 0x5FFF } }
    (t.lane 1).state = .idle ∧ t.laneCounter 1 .flushed = 4 ∧ t.ret.notices = [] ∧ t.ret.lostNotices = 0 ∧
      t.ret.replies = [⟨7, 0x07, .done, .lane .idle 0 0 4⟩] := by decide +kernel

/-- 08 R132: OPEN in CLOSED. -/
theorem test_openDevice_from_closed :
    let t := after (.openDevice 7) (busyLink { bench with mode := .closed })
    t.mode = .run ∧ t.ret.replies = [⟨7, 0x08, .done, .mode .run⟩] := by decide +kernel

/-- 12.5: request 200 leaves the mode CLOSING and the engine WORKING with the timer at 20 ms. -/
theorem test_drain_with_a_parcel_in_progress :
    let s := { timedOut with mode := .run, engine := { bench.engine with drainLimit := 20 } }
    let t := after (.drain 200) s
    t.mode = .closing ∧ t.engine.inProgress.isSome = true ∧ t.engine.drainTimer = some 20 ∧ t.engine.reserved = true ∧
      t.ret.replies = [] := by decide +kernel

/-- 08 R133: DRAIN in INIT is refused. -/
theorem test_drain_refused_in_init :
    (after (.drain 7) (busyLink { bench with mode := .init })).ret.replies = [⟨7, 0x09, .refused, .empty⟩] := by
  decide +kernel

/-- 08 R137: group 0 read with clear: the values before the clearing, and 0 afterwards; group 1 stays. -/
theorem test_readCounters_clears_its_group :
    let t := after (.readCounters 7 0 9 2) (((busyLink bench).bumpDrop .header).bumpParcel .sealed)
    t.drops .header = 0 ∧ t.parcels .sealed = 1 ∧
      t.ret.replies = [⟨7, 0x0A, .done, .counters [1, 0, 0, 0, 0, 0, 0, 0, 0, 0, 0, 0]⟩] := by decide +kernel

/-- The part of the example of chapter 09, with fewer units: lane 0 SENDING, class 1 CONGESTED, three notices waiting. -/
def inService : State :=
  let s := bound (bound (busyLink bench) 0 17 (config 0 0 160 4 10 false)
    (.assembling 17 0 (progress 0 1 (some 5) [0] [] none))) 1 18 (config 0 0 160 4 10 true) (.resting 18 0 40)
  let s1 := (s.setLane 0 ⟨.sending, [parcel 0 100 [5]], some (parcel 0 90 [3, 4]), 300, none, 100, .none⟩).setCls 1
    ⟨20, 2048, 16, true, false⟩
  { s1 with ret := { s1.ret with notices := List.replicate 3 someNotice, lostNotices := 2 } }

/-- 09, the example: lanes, slots, store, notices, mode. -/
theorem test_restartTraffic_in_service :
    let t := after (.restartTraffic 7) inService
    (t.lane 0).state = .idle ∧ (t.lane 0).queue = [] ∧ (t.lane 0).credit = 0 ∧ t.laneCounter 0 .aborted = 1 ∧
      t.slot 0 = .free ∧ t.slot 1 = .free ∧ (t.thread 18).binding = none ∧ t.store.freeList.take 2 = [0, 1] ∧
      (t.cls 1).congested = false ∧ t.device .congestionChanges = 1 ∧ t.ret.congestionPending = true ∧
      t.ret.notices = [] ∧ t.ret.lostNotices = 0 ∧ t.mode = .init ∧
      t.ret.replies = [⟨7, 0x0B, .done, .empty⟩] := by decide +kernel

/-- 10 R153: the reply to a RESTART FULL begins with return sequence 0, before the congestion status. -/
theorem test_restartFull_reply_begins_with_sequence_zero :
    let s := after (.restartFull 7) inService
    let t := after .returnShardEnd s
    s.ret.sequence = 0 ∧ (s.thread 17).active.limit = 160 ∧ (s.thread 17).active.enabled = false ∧
      t.ret.onLink = some ⟨0, .reply ⟨7, 0x0B, .done, .empty⟩⟩ ∧ t.ret.congestionPending = true := by decide +kernel

/-- 08 R123: code 12 names no request. -/
theorem test_unknownRequest_is_answered :
    (after (.unknownRequest 7 12) (busyLink bench)).ret.replies = [⟨7, 12, .unknown, .empty⟩] := by decide +kernel

/-! ## Witnesses: a sound part with traffic in it -/

/-- The parcel of thread 18 in slot 3: its first shard placed, in unit 0. -/
def saneParcel : Assembly := progress 20 21 (some 7) [0] [] none

/-- A part in RUN with thread 17 RESTING in slot 2 and thread 18 ASSEMBLING in slot 3, a period expiry waiting. -/
def sane : State :=
  { bound (bound (claimedUnits bench 0 1) 2 17 (config 0 0 160 4 10 true) (.resting 17 0 10)) 3 18
      (config 0 0 160 4 10 false) (.assembling 18 0 saneParcel) with pending := [.periodExpiry] }

theorem sane_slot (k : SlotId) : sane.slot k =
    if k = 3 then .assembling 18 0 saneParcel else if k = 2 then .resting 17 0 10 else .free := by
  have h : sane.slot k = (((bench.setSlot 2 (.resting 17 0 10)).setSlot 3 (.assembling 18 0 saneParcel))).slot k := rfl
  have hf : bench.slot k = .free := by simp [bench, State.slot, State.reset]
  rw [h, State.slot_setSlot, State.slot_setSlot, hf]

theorem sane_thread (t : ThreadId) : sane.thread t =
    if t = 18 then ⟨config 0 0 160 4 10 false, none, some 3⟩
    else if t = 17 then ⟨config 0 0 160 4 10 true, none, some 2⟩ else ThreadEntry.default := by
  have h : sane.thread t = (((bench.setThread 17 ⟨config 0 0 160 4 10 true, none, some 2⟩).setThread 18
    ⟨config 0 0 160 4 10 false, none, some 3⟩)).thread t := rfl
  have hf : bench.thread t = ThreadEntry.default := by simp [bench, State.thread, State.reset]
  rw [h, State.thread_setThread, State.thread_setThread, hf]

theorem sane_tableLaw : sane.tableLaw := by
  refine ⟨?_, ?_, ?_, ?_, ?_⟩
  · intro t
    rw [sane_thread]
    split_ifs <;> simp [ThreadConfig.inRange, config, ThreadEntry.default, ThreadConfig.default]
  · intro t k
    rw [sane_thread, sane_slot]
    split_ifs <;> simp_all [ThreadEntry.default, Slot.thread, eq_comm]
  · intro k t
    rw [sane_slot]
    split_ifs <;> intro h <;> simp [Slot.thread] at h
    · subst h; rw [sane_thread]; simp [config, Slot.state]
    · subst h; rw [sane_thread]; simp [config]
  · intro t
    rw [sane_thread]
    split_ifs <;> simp [ThreadEntry.default]
  · intro k t p a h
    rw [sane_slot] at h
    split_ifs at h
    simp only [Slot.assembling.injEq] at h
    obtain ⟨rfl, rfl, rfl⟩ := h
    rw [sane_thread]
    simp [Assembly.earlyLaw, Assembly.placedLaw, Assembly.lastHeldLaw, Assembly.earlyLimitLaw, saneParcel, progress, config,
      Assembly.units]

theorem sane_unitLaw : sane.unitLaw := by
  have hs : sane.slotUnits = [0] := by decide +kernel
  have hl : sane.laneUnits = [] := by decide +kernel
  have hf : List.finRange 8192 = 0 :: sane.store.freeList := builtFreeList_eq_finRange.symm
  have hc : sane.store.unitClass = (Vector.replicate 8192 none).set 0 (some 0) := rfl
  have hlist : sane.store.unitClass.toList = some 0 :: List.replicate 8191 none := by
    rw [hc, Vector.toList_set, Vector.toList_replicate, show (8192 : Nat) = 8191 + 1 from rfl, List.replicate_succ]
    rfl
  have hn : (List.finRange 8192).Nodup := List.nodup_finRange 8192
  have hm : sane.mode = .run := rfl
  unfold State.unitLaw
  rw [if_neg (by rw [hm]; decide)]
  refine ⟨?_, ?_, ?_⟩
  · unfold State.unitsAccounted
    rw [hs, hl, hf, List.append_nil]
    exact List.perm_append_comm
  · intro u
    have hu : u ∈ (0 : UnitNo) :: sane.store.freeList := hf ▸ List.mem_finRange u
    rw [hf] at hn
    by_cases h0 : u = 0
    · subst h0
      rw [hc]
      simpa using (List.nodup_cons.mp hn).1
    · rw [hc]
      have : u ∈ sane.store.freeList := by simpa [h0] using hu
      simp only [this, iff_true]
      rw [Vector.getElem_set_ne]
      · simp
      · intro h; exact h0 (Fin.ext h.symm)
  · intro c
    unfold State.classCount
    rw [hlist, List.countP_cons, List.countP_replicate]
    revert c
    decide +kernel

/-! ## Witnesses: the block as a machine, start-up, modes -/

theorem bench_ready : bench.ready := by unfold State.ready; decide +kernel

theorem busyBench_ready : (busyLink bench).ready := by unfold State.ready; decide +kernel

theorem witness_OnlyShardArrivalsWriteUnitOctets :
    (∀ v, Instr.periodExpiry ≠ .shardArrival v) ∧ exec .periodExpiry bench = .next (after .periodExpiry bench) :=
  ⟨fun _ h => (nomatch h), rfl⟩

theorem witness_StartUpEndsInInit :
    State.reset.resetn = true ∧ State.reset.building = false ∧
      let s := after .resetnRelease State.reset
      s.building = true ∧ s.ret.onLink = none ∧ s.ret.replies = [] ∧ s.ret.notices = [] ∧
        s.ret.congestionPending = false ∧ s.ret.noticeMask.getLsbD 0 = true := by decide +kernel

theorem witness_StartingTakesNothingFromTheLinks :
    State.reset.mode = .starting ∧ (requestOctets (.openDevice 1)).isSome = true := by decide +kernel

/-- Each clause of ModeChangesOnlyByItsEvents: STARTING entered, STARTING left, CLOSED entered, CLOSED left by a request row
and by the management shard that carries it, a visit taken. -/
theorem witness_ModeChangesOnlyByItsEvents :
    (exec .resetnAssert bench = .next (after .resetnAssert bench) ∧ (after .resetnAssert bench).mode = .starting ∧
      bench.mode ≠ .starting) ∧
    (let s := after .resetnRelease State.reset
     exec .endOfStartUp s = .next (after .endOfStartUp s) ∧ s.mode = .starting ∧ (after .endOfStartUp s).mode = .init) ∧
    (exec .closeJudgement draining = .next (after .closeJudgement draining) ∧ draining.modeLaw ∧
      draining.engine.queue = [] ∧ (after .closeJudgement draining).mode = .closed ∧ draining.mode ≠ .closed) ∧
    (let s := busyLink { bench with mode := .closed }
     let v := managementOctets 0 [0x00, 0x07, 0x08]
     exec (.openDevice 7) s = .next (after (.openDevice 7) s) ∧ s.modeLaw ∧ (after (.openDevice 7) s).mode = .run ∧
       kindBits v = 0b10#2 ∧ v[10] = 0x08 ∧ (after (.shardArrival v) s).mode = .run) ∧
    exec .scanVisit bench = .next (after .scanVisit bench) :=
  ⟨⟨rfl, by decide +kernel⟩, ⟨rfl, by decide +kernel⟩, ⟨rfl, by unfold State.modeLaw; decide +kernel⟩,
    ⟨rfl, by unfold State.modeLaw; decide +kernel⟩, rfl⟩

/-! ## Witnesses: the Ingress Gate -/

/-- A header whose check differs, and headers with either must-be-zero bit set under a right check. -/
theorem witness_HeaderFaultIsDroppedAsHeader :
    bench.mode ≠ .starting ∧ ¬ headerSound ((dataOctets 1 1 0 10 0 7 []).set 7 0) ∧
      ¬ headerSound (dataOctets 1 1 0x01 10 0 7 []) ∧ ¬ headerSound (dataOctets 1 1 0x02 10 0 7 []) := by
  unfold headerSound; decide +kernel

theorem witness_KindAndForeignDrops :
    bench.mode ≠ .starting ∧
      (headerSound (checkedShard [0, 0, 0, 0, 0, 0] []) ∧ kindBits (checkedShard [0, 0, 0, 0, 0, 0] []) = 0b00#2) ∧
      (headerSound (checkedShard [0xC0, 0, 0, 0, 0, 0] []) ∧
        kindBits (checkedShard [0xC0, 0, 0, 0, 0, 0] []) = 0b11#2) ∧
      headerSound (managementOctets 1 []) ∧ kindBits (managementOctets 1 []) = 0b10#2 ∧
      sourceNumber (managementOctets 1 []) ≠ bench.controller.val := by
  unfold headerSound; decide +kernel

theorem witness_RequestRowIsItsManagementShard :
    let v := managementOctets 0 [0x00, 0x07, 0x08]
    headerSound v ∧ kindBits v = 0b10#2 ∧ sourceNumber v = bench.controller.val ∧
      requestPayload (.openDevice 7) = some (v.toList.drop 8) := by
  unfold headerSound; decide +kernel

/-- A data shard of thread 17 with the tag 7. -/
def gateShard (marks : Byte) : Vector Byte 64 := dataOctets 1 1 marks 10 0 7 []

theorem gateShard_sound :
    (headerSound (gateShard 0) ∧ kindBits (gateShard 0) = 0b01#2 ∧ (shardFields (gateShard 0)).first = false) ∧
      headerSound (gateShard markF) ∧ kindBits (gateShard markF) = 0b01#2 ∧
      (shardFields (gateShard markF)).first = true ∧ (shardFields (gateShard markF)).thread = 17 ∧
      (shardFields (gateShard 0)).thread = 17 ∧ (shardFields (gateShard 0)).tag = 7 := by
  unfold headerSound; decide +kernel

/-- With `gateShard_sound`: the three modes, and thread 17 disabled and enabled in RUN. -/
theorem witness_ModeGateOfDataShards :
    { bench with mode := .init }.mode = .init ∧ { bench with mode := .closed }.mode = .closed ∧ bench.mode = .run ∧
      (bench.thread 17).active.enabled = false ∧ (sane.thread 17).active.enabled = true ∧ sane.mode = .run := by
  decide +kernel

/-- CLOSING with thread 17 bound to slot 2. -/
def closingWith (sl : Slot) : State :=
  { bound bench 2 17 (config 0 0 160 4 10 true) sl with mode := .closing }

/-- With `gateShard_sound`: thread 17 unbound, and its slot in each state of 07 R116, the skip tag equal to the shard's,
another, and absent. -/
theorem witness_ClosingGateOfDataShards :
    { bench with mode := .closing }.mode = .closing ∧ ({ bench with mode := .closing }.thread 17).binding = none ∧
      ((closingWith (.resting 17 0 10)).thread 17).binding = some 2 ∧
      (closingWith (.resting 17 0 10)).slot 2 = .resting 17 0 10 ∧
      (closingWith (.skipping 17 0 (some 8) .cut)).slot 2 = .skipping 17 0 (some 8) .cut ∧
      (closingWith (.skipping 17 0 (some 7) .cut)).slot 2 = .skipping 17 0 (some 7) .cut ∧
      (closingWith (.skipping 17 0 none .cut)).slot 2 = .skipping 17 0 none .cut ∧
      (closingWith (.assembling 17 0 saneParcel)).slot 2 = .assembling 17 0 saneParcel := by decide +kernel

/-! ## Witnesses: the Slot Table -/

/-- A data shard of thread 17 as the Slot Table takes it. -/
def aShard (first last : Bool) (seq fill : Byte) (tag : Tag) : DataShard :=
  { thread := 17, first := first, last := last, seq := seq, fill := fill, tag := tag, payload := List.replicate 56 1 }

theorem witness_UnboundShardWithoutFIsOrphan :
    (bench.thread 17).binding = none ∧ (aShard false true 9 0 7).first = false ∧
      { bench with orphanTally := 14 }.orphanTally < 15 ∧ { bench with orphanTally := 15 }.orphanTally = 15 := by
  decide +kernel

/-- Slot 3 free and slots 0 to 2 resting; a class at its quota; an empty free list. -/
def threeTaken : State :=
  ((bench.setSlot 0 (.resting 100 0 0)).setSlot 1 (.resting 101 0 0)).setSlot 2 (.resting 102 0 0)

theorem witness_FirstShardBindsTheLowestFreeSlot :
    (threeTaken.thread 17).binding = none ∧ (aShard true false 9 0 7).first = true ∧ threeTaken.slot 3 = .free ∧
      (∀ j, j < 3 → threeTaken.slot j ≠ .free) ∧ (aShard true false 9 0 7).last = false ∧
      Memory.wf threeTaken.store.octets = true ∧ (aShard true false 9 0 7).payload.length = 56 ∧
      (threeTaken.cls 0).usage < (threeTaken.cls 0).quota ∧ threeTaken.store.freeList.take 1 = [0] ∧
      (let s := threeTaken.setCls 0 ⟨2048, 2048, 1536, true, false⟩
       (s.cls 0).quota ≤ (s.cls 0).usage) ∧
      { threeTaken with store := { threeTaken.store with freeList := [] } }.store.freeList = [] := by decide +kernel

/-- A thread of its own for each slot. -/
def ownThread (k : SlotId) : ThreadId := ⟨k.val + 100, by omega⟩

/-- Every slot RESTING for a thread of its own in period 10: slots 7 and 9 of age 6, every other of age 2. -/
def allResting : State :=
  { bench with
    slots := Vector.ofFn (fun k : SlotId => Slot.resting (ownThread k) (if k = 7 ∨ k = 9 then 4 else 8) 0)
    aging := { bench.aging with periodNo := 10 } }

/-- Every slot SKIPPING. -/
def allSkipping : State :=
  { bench with slots := Vector.ofFn (fun k : SlotId => Slot.skipping (ownThread k) 0 none .cut) }

theorem witness_OldestRestingSlotIsEvictedOrTheShardRefused :
    (allResting.thread 17).binding = none ∧ ownThread 7 ≠ 17 ∧
      (∀ j, allResting.slot j = .resting (ownThread j) (if j = 7 ∨ j = 9 then 4 else 8) 0) ∧
      (allResting.aging.periodNo - 4).toNat = 6 ∧ (allResting.aging.periodNo - 8).toNat = 2 ∧
      (allSkipping.thread 17).binding = none ∧ ∀ j, (allSkipping.slot j).busy = true := by decide +kernel

/-- Thread 17 RESTING in slot 2, expected 10, window 4, limit 3. -/
def restingAt10 : State := bound bench 2 17 (config 0 0 3 4 10 true) (.resting 17 0 10)

/-- The distances of the shards of 01 R10: 128 and 255, 0, 5 and 127, 4 and 3 (at or past the limit), 1 and 2. -/
theorem witness_RestingSlotJudgesByDistance :
    (restingAt10.thread 17).binding = some 2 ∧ restingAt10.slot 2 = .resting 17 0 10 ∧
      (((138 : Seq) - 10).toNat = 128 ∧ ((9 : Seq) - 10).toNat = 255) ∧ ((10 : Seq) - 10).toNat = 0 ∧
      (((15 : Seq) - 10).toNat = 5 ∧ ((137 : Seq) - 10).toNat = 127) ∧
      (((14 : Seq) - 10).toNat = 4 ∧ ((13 : Seq) - 10).toNat = 3) ∧
      (((11 : Seq) - 10).toNat = 1 ∧ ((12 : Seq) - 10).toNat = 2) ∧
      (restingAt10.thread 17).active.window = 4 ∧ (restingAt10.thread 17).active.limit = 3 ∧
      (restingAt10.cls 0).usage < (restingAt10.cls 0).quota ∧ restingAt10.store.freeList.take 1 = [0] ∧
      ¬ ((restingAt10.setCls 0 ⟨0, 0, 0, false, false⟩).cls 0).usage <
          ((restingAt10.setCls 0 ⟨0, 0, 0, false, false⟩).cls 0).quota := by decide +kernel

/-- Fills at the edges of 5 to 56, on a shard carrying L. -/
theorem witness_fill_edges :
    (aShard false true 11 5 7).fill.toNat = 5 ∧ (aShard false true 11 56 7).fill.toNat = 56 ∧
      (aShard false true 11 4 7).fill.toNat < 5 ∧ 56 < (aShard false true 11 57 7).fill.toNat ∧
      (aShard false true 11 4 7).last = true := by decide +kernel

/-- Thread 17 ASSEMBLING in slot 2: parcel start 10, expected 12, an L held at 14 (position 4), window 5, limit 5. -/
def assemblingAt12 (retain : Bool) : State :=
  bound bench 2 17 (config 0 0 5 5 10 retain)
    (.assembling 17 0 (progress 10 12 (some 7) [500, 501] [⟨14, 502, 7, false, true, 20⟩] (some 4)))

/-- Thread 17 ASSEMBLING in slot 2 with nothing held, limit 4. -/
def nothingHeld : State :=
  bound bench 2 17 (config 0 0 4 5 10 true) (.assembling 17 0 (progress 10 12 (some 7) [500, 501] [] none))

/-- The shards of 01 R11 in its order: behind (140, 11), beyond the window (18, 139), a duplicate (14), beyond the held L
(15, position 5), at the limit (14, position 4, nothing held), below it (13, position 3). -/
theorem witness_AssemblingSlotJudgesInOrder :
    ((assemblingAt12 true).thread 17).binding = some 2 ∧
      (assemblingAt12 true).slot 2 =
        .assembling 17 0 (progress 10 12 (some 7) [500, 501] [⟨14, 502, 7, false, true, 20⟩] (some 4)) ∧
      (((140 : Seq) - 12).toNat = 128 ∧ ((11 : Seq) - 12).toNat = 255) ∧
      (((18 : Seq) - 12).toNat = 6 ∧ ((139 : Seq) - 12).toNat = 127) ∧
      (((14 : Seq) - 12).toNat = 2 ∧ ((15 : Seq) - 12).toNat = 3 ∧ ((15 : Seq) - 10).toNat = 5) ∧
      (((14 : Seq) - 10).toNat = 4 ∧ ((13 : Seq) - 10).toNat = 3) ∧
      ((assemblingAt12 true).thread 17).active.retain = true ∧
      ((assemblingAt12 false).thread 17).active.retain = false ∧
      (nothingHeld.thread 17).binding = some 2 ∧ (nothingHeld.thread 17).active.limit = 4 ∧
      (nothingHeld.cls 0).usage < (nothingHeld.cls 0).quota ∧ nothingHeld.store.freeList.take 1 = [0] := by
  decide +kernel

/-- A next-parcel shard (15) beyond the held L of a retain thread, and with nothing held an L (13) below the limit. -/
theorem witness_EarlyShardIsHeldInOrder :
    (0 < ((15 : Seq) - 12).toNat ∧ ((15 : Seq) - 12).toNat ≤ ((assemblingAt12 true).thread 17).active.window ∧
      (4 : Nat) < ((15 : Seq) - 10).toNat ∧ (15 : Seq) ≠ 14) ∧
      0 < ((13 : Seq) - 12).toNat ∧ ((13 : Seq) - 12).toNat ≤ (nothingHeld.thread 17).active.window ∧
      ((13 : Seq) - 10).toNat < (nothingHeld.thread 17).active.limit ∧ (aShard false true 13 5 7).seq = 13 := by
  decide +kernel

/-- Thread 17 ASSEMBLING in slot 2 at its parcel's start, a shard placed nowhere yet. -/
def atStart : State := bound bench 2 17 (config 0 0 1 5 10 true) (.assembling 17 0 (progress 12 12 none [] [] none))

/-- Thread 17 SKIPPING in slot 2. -/
def skippingWith (g : Option Tag) : State := bound bench 2 17 (config 0 0 4 5 10 true) (.skipping 17 0 g .tag)

/-- Thread 17 ASSEMBLING in slot 2: parcel start 10, expected 12, tag 7, limit 8, window 5, and these entries held. -/
def holding (early : List EarlyEntry) : State :=
  bound bench 2 17 (config 0 0 8 5 10 true) (.assembling 17 0 (progress 10 12 (some 7) [500, 501] early none))

/-- An entry held in unit 500 + its sequence. -/
def heldEntry (seq : Seq) (tag : Tag) (first last : Bool) (fill : Byte) : EarlyEntry :=
  ⟨seq, Fin.ofNat 8192 (500 + seq.toNat), tag, first, last, fill⟩

/-- Due shards 12 below the limit: at position 0 in `atStart`; at position 2 in `holding`, behind which stand a run of one
entry up to a gap, an entry of another tag, and an F entry with a run of its own. -/
theorem witness_DueShardIsPlacedAndDrainsOrPoisons :
    (atStart.thread 17).binding = some 2 ∧ atStart.slot 2 = .assembling 17 0 (progress 12 12 none [] [] none) ∧
      ((12 : Seq) - 12).toNat < (atStart.thread 17).active.limit ∧ Memory.wf atStart.store.octets = true ∧
      (atStart.cls 0).usage < (atStart.cls 0).quota ∧ atStart.store.freeList.take 1 = [0] ∧
      (∀ early : List EarlyEntry, (holding early).slot 2 = .assembling 17 0 (progress 10 12 (some 7) [500, 501] early none)) ∧
      (12 : Seq) ≠ 10 ∧ ((12 : Seq) - 10).toNat < (config 0 0 8 5 10 true).limit ∧
      (aShard true false 12 0 7).tag = 7 ∧ (aShard false false 12 0 8).tag ≠ 7 ∧
      (aShard true false 12 0 7).payload.length = 56 ∧
      (isRun 10 7 13 [heldEntry 13 7 false false 0] ∧ notDue (13 + 1) [heldEntry 15 7 false false 0] ∧
        (heldEntry 13 7 false false 0).unit ≠ 0 ∧ (heldEntry 15 7 false false 0).unit ≠ 0) ∧
      (isRun 10 7 13 [] ∧ (heldEntry 13 8 false false 0).tag ≠ 7) ∧
      isRun 13 9 (13 + 1) [heldEntry 14 9 false false 0] ∧ notDue (13 + 1 + 1) [] := by
  refine ⟨by decide +kernel, by decide +kernel, by decide +kernel, by decide +kernel, by decide +kernel, by decide +kernel,
    fun _ => rfl, by decide, by decide, by decide, by decide, by decide, ⟨?_, ?_, by decide, by decide⟩, ⟨trivial, by decide⟩,
    ?_, ?_⟩
  · exact ⟨rfl, by decide, rfl, rfl, rfl, trivial⟩
  · simp [notDue, heldEntry]
  · exact ⟨rfl, by decide, rfl, rfl, rfl, trivial⟩
  · simp [notDue]

/-- The shard carrying F and L at each fill edge; the L of `holding` due at 12 and the L held at 13; a class without room.
The four starts: slot 0 FREE, slot 7 the oldest RESTING one, slot 2 RESTING at the shard's sequence, and a skip that ends
with a pending configuration. -/
theorem witness_LastShardCompletesTheParcel :
    ((aShard true true 12 5 7).first = true ∧ (aShard true true 12 5 7).last = true ∧
      (aShard true true 12 4 7).fill.toNat < 5 ∧ (aShard true true 12 5 7).fill.toNat = 5 ∧
      (aShard true true 12 56 7).fill.toNat = 56 ∧ 56 < (aShard true true 12 57 7).fill.toNat) ∧
    ((aShard false true 12 5 7).last = true ∧ ((holding []).thread 17).pending = none ∧
      ((12 : Seq) - 10).toNat < (config 0 0 8 5 10 true).limit ∧ (heldEntry 13 7 false true 20).last = true ∧
      (heldEntry 13 7 false true 20).seq = 12 + 1) ∧
    ((bench.thread 17).binding = none ∧ bench.slot 0 = .free ∧ (bench.cls 0).usage < (bench.cls 0).quota ∧
      ¬ ((bench.setCls 0 ⟨0, 0, 0, false, false⟩).cls 0).usage < ((bench.setCls 0 ⟨0, 0, 0, false, false⟩).cls 0).quota) ∧
    ((allResting.thread 17).binding = none ∧ allResting.slot 7 = .resting (ownThread 7) 4 0 ∧ ownThread 7 ≠ 17) ∧
    (let s := bound bench 2 17 (config 0 0 8 5 10 true) (.resting 17 0 12)
     (s.thread 17).binding = some 2 ∧ s.slot 2 = .resting 17 0 12) ∧
    let s := (skippingWith (some 8)).setThread 17
      { (skippingWith (some 8)).thread 17 with pending := some (config 1 0 4 5 10 true) }
    (s.thread 17).binding = some 2 ∧ s.slot 2 = .skipping 17 0 (some 8) .tag ∧ (some 8 : Option Tag) ≠ some 7 ∧
      ((s.thread 17).pending.getD (s.thread 17).active).enabled = true := by decide +kernel

/-- The cases of a completion for thread 17 of `holding`, whose next parcel starts at 13 with the limit 8: entries without
L; an L at fill 5 and at fill 56; an entry at the limit; an L with fill 57; and an F entry with its run placed at once. -/
theorem witness_completion_cases :
    passesAsNextParcel 8 13 [] none ∧ passesAsNextParcel 8 13 [heldEntry 20 7 false false 0] none ∧
      passesAsNextParcel 8 13 [heldEntry 14 7 false true 5] (some 1) ∧
      passesAsNextParcel 8 13 [heldEntry 13 9 true false 0, heldEntry 14 9 false true 56, heldEntry 22 9 false false 0]
        (some 1) ∧
      failsAsNextParcel 8 13 [heldEntry 14 7 false false 0, heldEntry 21 7 false false 0] (heldEntry 21 7 false false 0)
        .overlong ∧
      failsAsNextParcel 8 13 [heldEntry 14 7 false true 57] (heldEntry 14 7 false true 57) .framing ∧
      startsAt 13 [heldEntry 13 9 true false 0, heldEntry 14 9 false false 0] ∧ notDue (13 + 2) [heldEntry 17 9 false false 0] := by
  refine ⟨Or.inl ⟨by simp, rfl⟩, Or.inl ⟨?_, rfl⟩, Or.inr ⟨[], _, [], rfl, ?_⟩, Or.inr ⟨[_], _, [_], rfl, ?_⟩,
    ⟨[_], [], rfl, ?_⟩, ⟨[], [], rfl, ?_⟩, ⟨rfl, rfl, rfl, rfl, by decide, rfl, rfl, rfl, trivial⟩, ?_⟩
  all_goals simp [EarlyEntry.inLimit, position, heldEntry, notDue]

theorem witness_PendingConfigurationDisplacesHeldEntries :
    (written.thread 327).pending = some (config 3 2 160 2 10 true) := by decide +kernel

/-- Skip tags equal to a shard's tag, other, and absent, for an enabled thread, and a pending configuration that disables
it. -/
theorem witness_SkippingSlotJudgesByTagAndMarks :
    ((skippingWith (some 7)).thread 17).binding = some 2 ∧ ((skippingWith (some 7)).thread 17).pending = none ∧
      (skippingWith (some 7)).slot 2 = .skipping 17 0 (some 7) .tag ∧
      (skippingWith (some 8)).slot 2 = .skipping 17 0 (some 8) .tag ∧
      (skippingWith none).slot 2 = .skipping 17 0 none .tag ∧ (aShard true false 12 0 7).tag = 7 ∧
      ((skippingWith none).thread 17).active.enabled = true ∧ (skippingWith none).store.freeList.take 1 = [0] ∧
      (let c := { config 0 0 4 5 10 true with enabled := false }
       let s := (skippingWith none).setThread 17 { (skippingWith none).thread 17 with pending := some c }
       (s.thread 17).pending.getD (s.thread 17).active = c ∧ c.enabled = false ∧
         s.slot 2 = .skipping 17 0 none .tag) := by
  decide +kernel

/-! ## Witnesses: the Parcel Store -/

/-- A class one below its quota, at it, and with an empty free list. -/
theorem witness_ClaimIsJudgedInOrder :
    (({ bench with store := { bench.store with freeList := [] } }.setCls 1 ⟨9, 10, 9, true, false⟩).cls 1).usage = 9 ∧
      ({ bench with store := { bench.store with freeList := [] } }).store.freeList = [] ∧
      ((bench.setCls 1 ⟨10, 10, 9, true, false⟩).cls 1).quota ≤
        ((bench.setCls 1 ⟨10, 10, 9, true, false⟩).cls 1).usage ∧
      bench.store.freeList.take 1 = [0] ∧ Memory.wf bench.store.octets = true ∧
      (List.replicate 56 (1 : Byte)).length = 56 := by decide +kernel

theorem witness_ClaimWritesOneUnit :
    Memory.wf bench.store.octets = true ∧ ∃ t, bench.claim 1 (List.replicate 56 1) = .taken 0 t :=
  ⟨rfl, _, rfl⟩

/-- Every unit counted to class 3. -/
theorem witness_ReturnedChainJoinsTheTail :
    ([2, 0] : List UnitNo).Nodup ∧
      ∀ u ∈ ([2, 0] : List UnitNo), (Vector.replicate 8192 (some (3 : ClassId)))[u.val] ≠ none :=
  ⟨by decide, fun u _ => by simp⟩

/-- A class with WARN 1536 and HYSTERESIS 256: at its warn level, one below it, at its clear level of 1280, one above. -/
theorem witness_RejudgementMovesCongestion :
    let s := fun usage congested => bench.setCls 2 ⟨usage, 2048, 1536, congested, false⟩
    ((s 1536 false).cls 2).warn ≤ ((s 1536 false).cls 2).usage ∧ ((s 1535 false).cls 2).usage < 1536 ∧
      ((s 1280 true).cls 2).usage ≤ ((s 1280 true).cls 2).warn - (s 1280 true).store.hysteresis ∧
      ((s 1281 true).cls 2).warn - (s 1281 true).store.hysteresis < ((s 1281 true).cls 2).usage := by decide +kernel

/-! ## Witnesses: the egress lanes -/

theorem bench_settled : bench.settled := by unfold State.settled; decide +kernel

/-- Lane 1 SENDING, and WAITING with a head of 3 blocks and credit 1: grants that reach 2, 3 and 4095 and one more. -/
theorem witness_GrantAddsToTheCredit :
    bench.mode ≠ .starting ∧ (bench.lane 1).shape ∧ (bench.lane 1).state ≠ .waiting ∧ (bench.lane 1).credit ≤ 4095 ∧
      (let l := (laneRow .waiting [lanesC] none 1 (some 100)).lane 1
       l.shape ∧ l.state = .waiting ∧ l.queue = [lanesC] ∧ l.credit + 1 < (lanesC.length + 63) / 64 ∧
         (lanesC.length + 63) / 64 ≤ l.credit + 2 ∧ l.credit + 4094 = 4095) ∧ (0xF000 : BitVec 16).toNat % 4096 = 0 := by
  refine ⟨by decide, ⟨rfl, rfl⟩, by decide, by decide, ⟨⟨⟨lanesC, [], rfl, by decide⟩, rfl⟩, by decide +kernel⟩, by decide⟩

/-- A DRAIN in progress that the end of lane 0's emission does not end: the mode is CLOSING; CLOSED with a descriptor queued
behind it, or with another lane SENDING. -/
theorem witness_drain_that_goes_on :
    draining.engine.inProgress ≠ none ∧ draining.mode ≠ .closed ∧
      (let s := { draining with mode := .closed }.setLane 0 { draining.lane 0 with queue := [lanesC] }
       s.mode = .closed ∧ (s.lane 0).queue ≠ []) ∧
      let s := { draining with mode := .closed }.setLane 1 { draining.lane 0 with emission := some lanesC }
      s.mode = .closed ∧ (s.lane 0).queue = [] ∧ (s.lane 1).state = .sending := by decide +kernel

/-- Lane 1 STOPPING; SENDING with an empty queue, with a head of exactly its credit, and with one beyond it. With
`witness_drain_that_goes_on` for a DRAIN in progress. -/
theorem witness_EmissionEndReturnsTheUnits :
    (bench.lane 1).emission = none ∧ bench.settled ∧
      (laneRow .stopping [] (some lanesC) 0 none).settled ∧
      (laneRow .stopping [] (some lanesC) 0 none).engine.inProgress = none ∧
      ((laneRow .stopping [] (some lanesC) 0 none).lane 1).emission = some lanesC ∧
      ((laneRow .sending [] (some lanesA) 0 none).lane 1).queue = [] ∧
      ((laneRow .sending [lanesC] (some lanesA) 3 none).lane 1).queue = [lanesC] ∧
      (lanesC.length + 63) / 64 = 3 ∧ ((laneRow .sending [lanesC] (some lanesA) 2 none).lane 1).credit = 2 := by
  unfold State.settled; decide +kernel

/-- Lane 1 WAITING with its timer running behind B: nothing behind it, a head of exactly its credit, one beyond it. With
`witness_drain_that_goes_on` for a DRAIN in progress. -/
theorem witness_StallExpiryDiscardsTheHead :
    ((bench.lane 1).state ≠ .waiting ∧ (bench.lane 1).stallTimer = none) ∧
      (let s := busyLink (laneRow .waiting [lanesB] none 3 (some 100))
       s.settled ∧ s.engine.inProgress = none ∧ (s.lane 1).state = .waiting ∧ (s.lane 1).stallTimer.isSome = true ∧
         (s.lane 1).queue = [lanesB] ∧ s.ret.noticeMask.getLsbD 12 = true ∧ s.ret.notices.length < 16 ∧
         s.ret.onLink.isSome = true) ∧
      ((laneRow .waiting [lanesB, lanesC] none 3 (some 100)).lane 1).queue = [lanesB, lanesC] ∧
      (lanesC.length + 63) / 64 = 3 := by
  unfold State.settled; decide +kernel

/-- The five lane states, a STOPPED lane with a head of exactly its credit and one beyond it, and lane number 4. -/
theorem witness_LaneStartAndStopActByState :
    bench.ready ∧ (bench.lane 1).state = .stopped ∧ (bench.lane 1).queue = [] ∧
      (∀ st : LaneState, st ∈ [LaneState.stopped, .idle, .waiting, .sending, .stopping] →
        ((laneRow st [] none 0 none).lane 1).state = st ∧ (laneRow st [] none 0 none).engine.queue = []) ∧
      ((laneRow .stopped [lanesC] none 3 none).lane 1).credit = (lanesC.length + 63) / 64 ∧
      ((laneRow .stopped [lanesC] none 2 none).lane 1).queue = [lanesC] ∧ 4 ≤ (4 : Byte).toNat :=
  ⟨bench_ready, by decide +kernel⟩

theorem witness_LaneFlushEmptiesTheQueue :
    let s := busyLink (laneRow .waiting [lanesB, lanesC] none 3 (some 100))
    s.ready ∧ s.settled ∧ (s.lane 1).queue.length = 2 ∧ s.ret.noticeMask.getLsbD 13 = true ∧
      s.ret.notices.length < 16 ∧ s.ret.onLink.isSome = true ∧ (bench.lane 1).queue.length = 0 ∧
      (bench.lane 1).state ≠ .waiting := by
  unfold State.ready State.settled; decide +kernel

/-! ## Witnesses: aging, closing and draining -/

theorem witness_PeriodExpiryAdvancesThePeriod :
    State.reset.aging.timer = none ∧ bench.aging.timer.isSome = true ∧ bench.aging.cursor = none ∧
      (scanning bench 5 500).aging.cursor.isSome = true ∧ (scanning bench 5 500).aging.expiryPending = true ∧
      { (scanning bench 5 500).aging with expiryPending := false }.cursor = some 5 := by decide +kernel

/-- The cursor on slots 94 and 95; a slot in progress at its timeout of 3 and one period short of it. -/
theorem witness_ScanVisitReapsByAge :
    bench.aging.cursor = none ∧ (scanning bench 94 0).aging.cursor = some 94 ∧
      (scanning bench 95 0).aging.cursor = some 95 ∧ (scanning bench 95 0).slot 95 = .free ∧
      (scanning (bound bench 2 17 (config 0 0 4 5 3 true) (.resting 17 0 9)) 2 3).slot 2 = .resting 17 0 9 ∧
      (let s := scanning (bound bench 2 17 (config 0 0 4 5 3 true) (.assembling 17 65535 saneParcel)) 2 2
       s.settled ∧ s.slot 2 = .assembling 17 65535 saneParcel ∧ (s.aging.periodNo - 65535).toNat = 3 ∧
         (s.aging.periodNo - 0).toNat = 2 ∧ (s.thread 17).active.timeout = 3 ∧ s.ret.noticeMask.getLsbD 1 = true) ∧
      (scanning (skippingWith none) 2 2).slot 2 = .skipping 17 0 none .tag := by
  unfold State.settled; decide +kernel

/-- No report; a report in RUN, in CLOSING with a slot in progress, and with none: without a DRAIN, with one and a lane
that sends, with one and every lane at rest. -/
theorem witness_CloseJudgementTakesOneReport :
    let restful := draining.setLane 0 (bench.lane 0)
    bench.slotReports = 0 ∧ 0 < draining.slotReports ∧ draining.mode = .closing ∧ draining.busySlots = 0 ∧
      (draining.lane 0).state = .sending ∧ draining.engine.inProgress.isSome = true ∧ draining.engine.queue = [] ∧
      (∀ n, (restful.lane n).queue = [] ∧ (restful.lane n).state ≠ .sending ∧ (restful.lane n).state ≠ .stopping ∧
        (restful.lane n).emission = none) ∧
      0 < { timedOut with slotReports := 1 }.busySlots ∧ { bench with slotReports := 1 }.mode ≠ .closing ∧
      { bench with slotReports := 1 }.engine.inProgress = none := by decide +kernel

/-- INIT; RUN with a slot in progress; CLOSED with a lane that sends, and with every lane at rest. -/
theorem witness_DrainIsJudgedByTheMode :
    { bench with mode := .init }.ready ∧ { bench with mode := .init }.mode = .init ∧
      (let s := bound bench 2 17 (config 0 0 4 5 3 true) (.assembling 17 0 saneParcel)
       s.ready ∧ s.mode = .run ∧ 0 < s.busySlots) ∧
      (let s := { laneRow .sending [] (some lanesC) 0 none with mode := .closed }
       s.ready ∧ s.busySlots = 0 ∧ (s.lane 1).state = .sending) ∧
      ∀ n, (bench.lane n).queue = [] ∧ (bench.lane n).state ≠ .sending ∧ (bench.lane n).state ≠ .stopping ∧
        (bench.lane n).emission = none := by
  unfold State.ready; decide +kernel

/-- CLOSED with lane 0 as the last that holds anything: SENDING, and WAITING with its stall timer running. -/
theorem witness_DrainEndsAtItsTimerOrTheLastLane :
    bench.engine.inProgress = none ∧ draining.engine.drainTimer.isSome = true ∧ draining.engine.queue = [] ∧
      draining.engine.inProgress = some ⟨100, 0x09, []⟩ ∧
      (let s := { draining with mode := .closed }
       s.busySlots = 0 ∧ (s.lane 0).emission = some (parcel 0 100 [1, 2]) ∧ (s.lane 0).queue = [] ∧
         ∀ m, m ≠ 0 → (s.lane m).queue = [] ∧ (s.lane m).state ≠ .sending ∧ (s.lane m).state ≠ .stopping ∧
           (s.lane m).emission = none) ∧
      let s := { draining with mode := .closed }.setLane 0 ⟨.waiting, [lanesC], none, 0, some 100, 100, .none⟩
      (s.lane 0).state = .waiting ∧ (s.lane 0).stallTimer.isSome = true ∧ (s.lane 0).emission = none ∧
        (s.lane 0).queue = [lanesC] ∧ ∀ m, m ≠ 0 → (s.lane m).queue = [] ∧ (s.lane m).emission = none := by decide +kernel

/-! ## Witnesses: the return link and the Management Engine -/

/-- An idle link; a busy one with a congestion status and no hold, with a reply behind the hold, with a notice, with
nothing; and a link that sends each kind of content, a READ_SLOT reply with 15 early units among them. -/
theorem witness_ReturnShardsAreChosenByRankAndLaidOut :
    let waiting := fun (p : Bool) (rs : List Reply) (ns : List Notice) (h : Bool) =>
      { (busyLink bench).ret with congestionPending := p, replies := rs, notices := ns, fullRestartHold := h }
    bench.ret.onLink = none ∧ (busyLink bench).ret.onLink.isSome = true ∧ (waiting true [] [] false).congestionPending = true ∧
      (waiting true [⟨1, 0x08, .done, .empty⟩] [] true).fullRestartHold = true ∧
      (waiting false [] [someNotice] false).notices = [someNotice] ∧ (waiting false [] [] false).replies = [] ∧
      (let view : SlotView := ⟨.resting, some 17, some 9, none, none, 0, List.replicate 15 1, none, some 0, none, none⟩
       let sending := fun c : ReturnContent => { bench.ret with onLink := some ⟨0xFF, c⟩ }
       view.early.length ≤ 15 ∧ (sending (.reply ⟨1, 0x05, .done, .slot view⟩)).onLink.isSome = true ∧
         (sending (.notice someNotice)).onLink = some ⟨0xFF, .notice someNotice⟩ ∧
         (sending (.congestion [true, false, false, true] [8192, 0, 0, 1])).onLink.isSome = true) := by
  decide +kernel

/-- A busy link, an idle one, a masked kind, 15 and 16 notices waiting. -/
theorem witness_SubmissionsJoinTheirQueues :
    (busyLink bench).ret.onLink.isSome = true ∧
      (bench.ret.onLink = none ∧ bench.ret.replies = [] ∧ bench.ret.notices = [] ∧ bench.ret.congestionPending = false) ∧
      (0x5FFF : BitVec 16).getLsbD NoticeKind.flushed.code = false ∧
      bench.ret.noticeMask.getLsbD NoticeKind.orphanBurst.code = true ∧ (List.replicate 15 someNotice).length < 16 ∧
      16 ≤ (List.replicate 16 someNotice).length := by decide +kernel

/-- A full queue before a reply place that is free and before none, and the queue of a WORKING engine with 7 requests. -/
theorem witness_ArrivalIsJudgedByTheQueues :
    (requestPayload (.openDevice 7)).isSome = true ∧ bench.mode ≠ .starting ∧
      (let e := { draining.engine with queue := List.replicate 7 (requestWith 1 0x08 []) }
       e.queue.length < 8 ∧ e.inProgress.isSome = true) ∧
      (bench.engine.queue = [] ∧ bench.engine.inProgress = none ∧
        bench.ret.replies.length + (if bench.engine.reserved = true then 1 else 0) < 8) ∧
      (let s := { draining with
         engine := { draining.engine with queue := List.replicate 8 (requestWith 1 0x08 []) }
         ret := { draining.ret with replies := List.replicate 6 ⟨1, 0x08, .done, .empty⟩ } }
       8 ≤ s.engine.queue.length ∧ s.ret.replies.length + (if s.engine.reserved = true then 1 else 0) = 7 ∧
         s.ret.onLink.isSome = true) ∧
      { bench.ret with replies := List.replicate 7 ⟨1, 0x08, .done, .empty⟩ }.onLink = none := by decide +kernel

/-! ## Witnesses: requests and restarts -/

/-- Every edge of the setting indices, for a ready engine; and the STATUS read of R125 before it is answered. -/
theorem witness_ReadSettingAnswersTheSetting :
    bench.ready ∧ (0 : Byte).toNat = 0 ∧ (5 : Byte).toNat = 5 + (0 : ClassId).val ∧ (8 : Byte).toNat = 5 + (3 : ClassId).val ∧
      (9 : Byte).toNat = 9 + (0 : ClassId).val ∧ (12 : Byte).toNat = 9 + (3 : ClassId).val ∧
      (15 : Byte).toNat = 15 + (0 : LaneId).val ∧ (18 : Byte).toNat = 15 + (3 : LaneId).val ∧ (19 : Byte).toNat = 19 ∧
      20 ≤ (20 : Byte).toNat ∧ (requestWith 201 0x01 [1]).code = 0x01 ∧ (requestWith 201 0x01 [1]).octet 3 = 1 :=
  ⟨bench_ready, by decide +kernel⟩

/-- Threads 1023 and 1024, slots 95 and 96, and a slot in each state. -/
theorem witness_ReadThreadAndSlotAnswerSnapshots :
    sane.ready ∧ 1024 ≤ (1024 : BitVec 16).toNat ∧ 96 ≤ (96 : Byte).toNat ∧ sane.slot 95 = .free ∧
      sane.slot 2 = .resting 17 0 10 ∧ sane.slot 3 = .assembling 18 0 saneParcel ∧
      (skippingWith none).ready ∧ (skippingWith none).slot 2 = .skipping 17 0 none .tag := by
  unfold State.ready; decide +kernel

theorem witness_SettingWritesAnswerByRange :
    bench.ready ∧ (63 : BitVec 16).toNat ≤ 63 ∧ 63 < (64 : BitVec 16).toNat ∧ (1 : BitVec 16) ≠ 0 ∧
      (0x7FFF : BitVec 16).getLsbD 15 = false ∧ (0x8000 : BitVec 16).getLsbD 15 = true ∧ 20 ≤ (20 : Byte).toNat :=
  ⟨bench_ready, by decide⟩

/-- A quota at the warn level and one below it, a warn level at the quota and one above it, 8192 and 8193, 1024 and 1025. -/
theorem witness_StoreSettingWritesAnswerByRange :
    bench.ready ∧ (bench.cls 0).warn ≤ (1536 : BitVec 16).toNat ∧ (1535 : BitVec 16).toNat < (bench.cls 0).warn ∧
      (2048 : BitVec 16).toNat ≤ (bench.cls 0).quota ∧ (bench.cls 0).quota < (2049 : BitVec 16).toNat ∧
      (8192 : BitVec 16).toNat ≤ 8192 ∧ 8192 < (8193 : BitVec 16).toNat ∧ (1024 : BitVec 16).toNat ≤ 1024 ∧
      1024 < (1025 : BitVec 16).toNat :=
  ⟨bench_ready, by decide +kernel⟩

/-- Operands at their upper edges, a limit past its edge, and threads unbound, RESTING, ASSEMBLING and SKIPPING. -/
theorem witness_WriteThreadIsAppliedOrStored :
    sane.ready ∧ (1023 : BitVec 16).toNat = (1023 : ThreadId).val ∧ (160 : Byte).toNat ≤ 160 ∧ ¬ (161 : Byte).toNat ≤ 160 ∧
      (sane.thread 1023).binding = none ∧ (sane.thread 17).binding = some 2 ∧ sane.slot 2 = .resting 17 0 10 ∧
      (sane.thread 18).binding = some 3 ∧ sane.slot 3 = .assembling 18 0 saneParcel ∧
      ((skippingWith none).thread 17).binding = some 2 ∧ (skippingWith none).slot 2 = .skipping 17 0 none .tag := by
  unfold State.ready; decide +kernel

/-- Targets at the edges of their ranges, over the sound part `sane`. -/
theorem witness_CutActsOnTheTargetThreads :
    sane.ready ∧ sane.settled ∧ sane.bindingLaw ∧ (1023 : BitVec 16).toNat < 1024 ∧ ¬ (1024 : BitVec 16).toNat < 1024 ∧
      (63 : BitVec 16).toNat < 64 ∧ ¬ (64 : BitVec 16).toNat < 64 ∧
      (17 : ThreadId).val / 16 = (1 : BitVec 16).toNat ∧ sane.slot 3 = .assembling 18 0 saneParcel :=
  ⟨by unfold State.ready; decide +kernel, by unfold State.settled; decide +kernel, sane_tableLaw.2.1, by decide +kernel⟩

theorem witness_OpenRunsAndUnknownCodesAreAnswered : bench.ready ∧ (12 : Byte).toNat = 12 ∧ 12 ≤ (255 : Byte).toNat :=
  ⟨bench_ready, by decide⟩

theorem witness_ReadCountersAnswersAndClears :
    bench.ready ∧ (3 : Byte).toNat = (3 : LaneId).val ∧ 4 ≤ (4 : Byte).toNat := ⟨bench_ready, by decide⟩

/-- The part of chapter 09's example, and a lane SENDING in it. -/
theorem witness_RestartTrafficClearsTheTraffic :
    inService.ready ∧ (inService.lane 0).emission = some (parcel 0 90 [3, 4]) ∧ (inService.lane 1).emission = none ∧
      (inService.lane 1).state = .stopped ∧ (inService.lane 0).state = .sending ∧ inService.ret.onLink.isSome = true := by
  unfold State.ready; decide +kernel

/-- An idle return link as well. -/
theorem witness_RestartFullRestoresDefaults :
    inService.ready ∧ inService.returnLaw ∧ bench.ready ∧ bench.returnLaw ∧ bench.ret.onLink = none := by
  unfold State.ready State.returnLaw; decide +kernel

/-! ## Witnesses: the laws every step keeps -/

/-- `sane` meets every law, and its step answers a next state. -/
theorem witness_StepKeeps : (∃ t, step sane = .next t) ∧ sane.sound := by
  have hn : ∀ n, sane.lane n = Lane.default := by decide +kernel
  refine ⟨⟨_, rfl⟩, by unfold State.memoryLaw; decide +kernel, by unfold State.quotaLaw; decide +kernel,
    by unfold State.congestionLaw; decide +kernel, sane_unitLaw, by unfold State.modeLaw; decide +kernel, sane_tableLaw,
    by unfold State.laneLaw; decide +kernel, ?_, by unfold State.engineLaw; decide +kernel,
    by unfold State.returnLaw; decide +kernel⟩
  intro n
  rw [hn]
  exact ⟨rfl, rfl⟩

theorem witness_StepTakesTheFrontCommand : sane.pending = [.periodExpiry] ∧ bench.pending = [] := ⟨rfl, rfl⟩

end Sys2Proof.Tests
end

section
/-! SUPPORT. The Slot Table's operations seen from the tables: which of them leave every slot and every thread, and what the others write. -/

namespace Sys2Proof.Machine

/-! ### Operations that leave every slot and every thread -/

@[simp] theorem State.dropEntries_slots (s : State) (es : List EarlyEntry) (c : DropCounter) :
    (s.dropEntries es c).slots = s.slots := by
  have h : ∀ (l : List EarlyEntry) (u : State), (l.foldl (fun v _ => v.bumpDrop c) u).slots = u.slots := by
    intro l
    induction l with
    | nil => exact fun _ => rfl
    | cons e l ih => exact fun u => ih (u.bumpDrop c)
  simp [State.dropEntries, h]

@[simp] theorem State.dropEntries_threads (s : State) (es : List EarlyEntry) (c : DropCounter) :
    (s.dropEntries es c).threads = s.threads := by
  have h : ∀ (l : List EarlyEntry) (u : State), (l.foldl (fun v _ => v.bumpDrop c) u).threads = u.threads := by
    intro l
    induction l with
    | nil => exact fun _ => rfl
    | cons e l ih => exact fun u => ih (u.bumpDrop c)
  simp [State.dropEntries, h]

@[simp] theorem State.orphanEntries_slots (s : State) (t : ThreadId) (es : List EarlyEntry) :
    (s.orphanEntries t es).slots = s.slots := by
  have h : ∀ (l : List EarlyEntry) (u : State), (l.foldl (fun v _ => v.dropOrphan t) u).slots = u.slots := by
    intro l
    induction l with
    | nil => exact fun _ => rfl
    | cons e l ih => exact fun u => (ih (u.dropOrphan t)).trans (State.dropOrphan_slots u t)
  simp [State.orphanEntries, h]

@[simp] theorem State.orphanEntries_threads (s : State) (t : ThreadId) (es : List EarlyEntry) :
    (s.orphanEntries t es).threads = s.threads := by
  have h : ∀ (l : List EarlyEntry) (u : State), (l.foldl (fun v _ => v.dropOrphan t) u).threads = u.threads := by
    intro l
    induction l with
    | nil => exact fun _ => rfl
    | cons e l ih => exact fun u => (ih (u.dropOrphan t)).trans (State.dropOrphan_threads u t)
  simp [State.orphanEntries, h]

theorem State.offer_tables (s v : State) (d : Descriptor) (h : s.offer d = some v) :
    v.slots = s.slots ∧ v.threads = s.threads := by
  unfold State.offer at h
  split at h
  · cases h; exact ⟨rfl, rfl⟩
  · cases h

/-- Sealing or discarding a completed parcel touches neither a slot nor a thread (02 R35 to R38). -/
theorem State.sealParcel_tables (s : State) (t : ThreadId) (a : Assembly) (e : EarlyEntry) :
    (s.sealParcel t a e).slots = s.slots ∧ (s.sealParcel t a e).threads = s.threads := by
  unfold State.sealParcel
  dsimp only
  split
  · split
    · next v h => exact State.offer_tables s v _ h
    · exact ⟨by simp, by simp⟩
  · exact ⟨by simp, by simp⟩

@[simp] theorem State.sealParcel_slots (s : State) (t : ThreadId) (a : Assembly) (e : EarlyEntry) :
    (s.sealParcel t a e).slots = s.slots := (State.sealParcel_tables s t a e).1

@[simp] theorem State.sealParcel_threads (s : State) (t : ThreadId) (a : Assembly) (e : EarlyEntry) :
    (s.sealParcel t a e).threads = s.threads := (State.sealParcel_tables s t a e).2

@[simp] theorem State.thread_dropEntries (s : State) (es : List EarlyEntry) (c : DropCounter) (x : ThreadId) :
    (s.dropEntries es c).thread x = s.thread x := State.thread_congr _ _ _ (State.dropEntries_threads s es c)

@[simp] theorem State.thread_orphanEntries (s : State) (t : ThreadId) (es : List EarlyEntry) (x : ThreadId) :
    (s.orphanEntries t es).thread x = s.thread x := State.thread_congr _ _ _ (State.orphanEntries_threads s t es)

@[simp] theorem State.thread_sealParcel (s : State) (t : ThreadId) (a : Assembly) (e : EarlyEntry) (x : ThreadId) :
    (s.sealParcel t a e).thread x = s.thread x := State.thread_congr _ _ _ (State.sealParcel_threads s t a e)

@[simp] theorem State.restartParcel_slots (s : State) (t : ThreadId) (a : Assembly) (e : EarlyEntry) (p : Nat) :
    (s.restartParcel t a e p).2.slots = s.slots := by
  simp [State.restartParcel]

@[simp] theorem State.restartParcel_threads (s : State) (t : ThreadId) (a : Assembly) (e : EarlyEntry) (p : Nat) :
    (s.restartParcel t a e p).2.threads = s.threads := by
  simp [State.restartParcel]

@[simp] theorem State.thread_restartParcel (s : State) (t : ThreadId) (a : Assembly) (e : EarlyEntry) (p : Nat)
    (x : ThreadId) : (s.restartParcel t a e p).2.thread x = s.thread x :=
  State.thread_congr _ _ _ (State.restartParcel_threads s t a e p)

/-- What a successful claim answers (04 R68): the head of the free list taken, then the judgement of R72. -/
theorem State.claim_taken_iff (s z : State) (c : ClassId) (payload : List Byte) (u : UnitNo) :
    s.claim c payload = .taken u z ↔ (s.cls c).usage < (s.cls c).quota ∧
      ∃ rest, s.store.freeList = u :: rest ∧ z = (s.takeUnit c payload u rest).judgeRise c := by
  unfold State.claim
  by_cases hq : (s.cls c).quota ≤ (s.cls c).usage
  · simp [hq, Nat.not_lt.mpr hq]
  · rw [if_neg hq]
    cases hf : s.store.freeList with
    | nil => simp
    | cons v rest =>
      simp only [ClaimResult.taken.injEq, List.cons.injEq]
      refine ⟨fun ⟨hv, hz⟩ => ⟨Nat.not_le.mp hq, rest, ⟨hv, rfl⟩, hv ▸ hz.symm⟩, ?_⟩
      rintro ⟨-, r, ⟨rfl, rfl⟩, rfl⟩
      exact ⟨rfl, rfl⟩

/-- A claim at the quota of its class fails with QUOTA (04 R68). -/
theorem State.claim_quota (s : State) (c : ClassId) (payload : List Byte) (h : (s.cls c).quota ≤ (s.cls c).usage) :
    s.claim c payload = .failed .quota := by
  simp [State.claim, h]

/-- A claim below the quota of its class, with no unit free, fails with STORE (04 R68). -/
theorem State.claim_store (s : State) (c : ClassId) (payload : List Byte) (h : (s.cls c).usage < (s.cls c).quota)
    (hf : s.store.freeList = []) : s.claim c payload = .failed .store := by
  simp [State.claim, Nat.not_le.mpr h, hf]

/-- A claim below the quota of its class takes the head of the free list (04 R65, R68). -/
theorem State.claim_success (s : State) (c : ClassId) (payload : List Byte) (u : UnitNo) (rest : List UnitNo)
    (h : (s.cls c).usage < (s.cls c).quota) (hf : s.store.freeList = u :: rest) :
    s.claim c payload = .taken u ((s.takeUnit c payload u rest).judgeRise c) :=
  (State.claim_taken_iff s _ c payload u).mpr ⟨h, rest, hf, rfl⟩

/-- A successful claim touches neither a slot nor a thread. -/
theorem State.claim_tables (s z : State) (c : ClassId) (payload : List Byte) (u : UnitNo)
    (h : s.claim c payload = .taken u z) : z.slots = s.slots ∧ z.threads = s.threads := by
  obtain ⟨-, rest, -, rfl⟩ := (State.claim_taken_iff s z c payload u).mp h
  exact ⟨by simp, by simp⟩

/-! ### Operations that write a slot or a thread -/

/-- A slot written with the record it has. -/
theorem State.setSlot_slot (s : State) (k : SlotId) : s.setSlot k (s.slot k) = s := by
  simp [State.setSlot, State.slot]

@[simp] theorem State.slot_poison_self (s : State) (k : SlotId) (t : ThreadId) (stamp : PeriodNo) (held : List UnitNo)
    (g : Option Tag) (r : PoisonReason) : (s.poison k t stamp held g r).slot k = .skipping t stamp g r := by
  simp [State.poison]

@[simp] theorem ThreadEntry.endParcel_pending (e : ThreadEntry) : e.endParcel.pending = none := by
  unfold ThreadEntry.endParcel
  split
  · assumption
  · rfl

@[simp] theorem ThreadEntry.endParcel_active (e : ThreadEntry) : e.endParcel.active = e.pending.getD e.active := by
  unfold ThreadEntry.endParcel
  split
  · next h => simp [h]
  · next h => simp [h]

@[simp] theorem ThreadEntry.endParcel_binding (e : ThreadEntry) : e.endParcel.binding = e.binding := by
  unfold ThreadEntry.endParcel
  split <;> rfl

@[simp] theorem State.thread_signalParcelEnd_self (s : State) (t : ThreadId) :
    (s.signalParcelEnd t).thread t = (s.thread t).endParcel := by
  simp [State.signalParcelEnd]

theorem State.thread_signalParcelEnd_ne (s : State) (t x : ThreadId) (h : x ≠ t) :
    (s.signalParcelEnd t).thread x = s.thread x := by
  simp [State.signalParcelEnd, State.thread_setThread_ne _ _ _ _ h]

@[simp] theorem State.slot_freeSlot_self (s : State) (k : SlotId) (t : ThreadId) : (s.freeSlot k t).slot k = .free := by
  simp [State.freeSlot]

theorem State.slot_freeSlot_ne (s : State) (k j : SlotId) (t : ThreadId) (h : j ≠ k) :
    (s.freeSlot k t).slot j = s.slot j := by
  simp [State.freeSlot, State.slot_setSlot_ne _ _ _ _ h]

@[simp] theorem State.thread_freeSlot_self (s : State) (k : SlotId) (t : ThreadId) :
    (s.freeSlot k t).thread t = { s.thread t with binding := none } := by
  simp [State.freeSlot]

theorem State.thread_freeSlot_ne (s : State) (k : SlotId) (t x : ThreadId) (h : x ≠ t) :
    (s.freeSlot k t).thread x = s.thread x := by
  simp [State.freeSlot, State.thread_setBinding_ne _ _ _ _ h]

end Sys2Proof.Machine
end

section
/-! SUPPORT. The laws of the tables seen around one slot: what must hold of every other slot and thread while one slot is being judged, and what the record written at the end must be for the laws to hold again (01 R2, R3, 03 R52, R60). -/

namespace Sys2Proof.Machine

/-- The laws of an ASSEMBLING parcel against its thread's configuration, as `State.slotLaw` has them. -/
def Assembly.law (a : Assembly) (c : ThreadConfig) : Prop :=
  a.earlyLaw c.window ∧ a.placedLaw c.limit ∧ a.lastHeldLaw ∧ a.earlyLimitLaw c.limit

/-- The laws of the tables for everything but the record of slot `k`, which serves thread `t`: what holds while the slot
is judged, whatever its record is at the moment. -/
structure State.tablesAround (s : State) (k : SlotId) (t : ThreadId) : Prop where
  config : s.configLaw
  binding : ∀ x j, (s.thread x).binding = some j ↔ if j = k then x = t else (s.slot j).thread = some x
  bound : ∀ j x, j ≠ k → (s.slot j).thread = some x →
    (s.thread x).active.enabled = true ∧ ((s.slot j).state = .resting → (s.thread x).active.retain = true)
  pending : ∀ x, x ≠ t → (s.thread x).pending.isSome = true →
    ∃ j, (s.thread x).binding = some j ∧ (s.slot j).busy = true
  slots : ∀ j x stamp a, j ≠ k → s.slot j = .assembling x stamp a → a.law (s.thread x).active

/-- A record that slot `k` may take for thread `t`: bound to an enabled thread, retaining where it rests, in progress where
a configuration is pending, and lawful where it assembles. -/
structure Slot.fits (v : Slot) (t : ThreadId) (e : ThreadEntry) : Prop where
  thread : v.thread = some t
  enabled : e.active.enabled = true
  retain : v.state = .resting → e.active.retain = true
  pending : e.pending.isSome = true → v.busy = true
  law : ∀ x stamp a, v = .assembling x stamp a → a.law e.active

theorem Slot.fits_skipping (t : ThreadId) (e : ThreadEntry) (stamp : PeriodNo) (g : Option Tag) (r : PoisonReason)
    (h : e.active.enabled = true) : (Slot.skipping t stamp g r).fits t e :=
  ⟨rfl, h, nofun, fun _ => rfl, nofun⟩

theorem Slot.fits_assembling (t : ThreadId) (e : ThreadEntry) (stamp : PeriodNo) (a : Assembly)
    (h : e.active.enabled = true) (ha : a.law e.active) : (Slot.assembling t stamp a).fits t e :=
  ⟨rfl, h, nofun, fun _ => rfl, fun _ _ _ e => by cases e; exact ha⟩

theorem Slot.fits_resting (t : ThreadId) (e : ThreadEntry) (stamp : PeriodNo) (x : Seq)
    (h : e.active.enabled = true) (hr : e.active.retain = true) (hp : e.pending = none) :
    (Slot.resting t stamp x).fits t e :=
  ⟨rfl, h, fun _ => hr, fun hs => by simp [hp] at hs, nofun⟩

/-! ### Only the slots and the threads count -/

theorem State.tableLaw_congr {s v : State} (hs : v.slots = s.slots) (ht : v.threads = s.threads) (h : s.tableLaw) :
    v.tableLaw := by
  have h1 : v.thread = s.thread := funext fun x => State.thread_congr s v x ht
  have h2 : v.slot = s.slot := funext fun j => State.slot_congr s v j hs
  simpa only [State.tableLaw, State.configLaw, State.bindingLaw, State.boundLaw, State.pendingLaw, State.slotLaw, h1, h2]
    using h

theorem State.tablesAround_congr {s v : State} {k : SlotId} {t : ThreadId} (hs : v.slots = s.slots)
    (ht : v.threads = s.threads) (h : s.tablesAround k t) : v.tablesAround k t := by
  have h1 : v.thread = s.thread := funext fun x => State.thread_congr s v x ht
  have h2 : v.slot = s.slot := funext fun j => State.slot_congr s v j hs
  obtain ⟨hc, hb, hd, hp, hl⟩ := h
  refine ⟨?_, ?_, ?_, ?_, ?_⟩ <;> simpa only [State.configLaw, h1, h2]

/-- The record of the slot itself does not count. -/
theorem State.tablesAround_setSlot {s : State} {k : SlotId} {t : ThreadId} (v : Slot) (h : s.tablesAround k t) :
    (s.setSlot k v).tablesAround k t := by
  have hne : ∀ j, j ≠ k → (s.setSlot k v).slot j = s.slot j := fun j hj => State.slot_setSlot_ne s k j v hj
  refine ⟨h.config, fun x j => ?_, fun j x hj => ?_, fun x hx hp => ?_, fun j x p a hj => ?_⟩
  · rw [State.thread_setSlot, h.binding x j]
    by_cases hj : j = k
    · simp [hj]
    · simp [hj, hne]
  · rw [hne j hj, State.thread_setSlot]
    exact h.bound j x hj
  · obtain ⟨j, hb, hj⟩ := h.pending x hx hp
    have hjk : j ≠ k := by
      rintro rfl
      exact hx (by simpa using (h.binding x j).mp hb)
    exact ⟨j, hb, by rw [hne j hjk]; exact hj⟩
  · rw [hne j hj, State.thread_setSlot]
    exact h.slots j x p a hj

/-! ### Into the judgement of a slot, and out of it -/

/-- A bound slot is judged with the tables in order around it. -/
theorem State.tableLaw_tablesAround {s : State} {k : SlotId} {t : ThreadId} (h : s.tableLaw)
    (hk : (s.slot k).thread = some t) : s.tablesAround k t := by
  obtain ⟨hc, hb, hd, hp, hl⟩ := h
  refine ⟨hc, fun x j => ?_, fun j x _ => hd j x, fun x _ => hp x, fun j x p a _ => hl j x p a⟩
  rw [hb x j]
  by_cases hj : j = k
  · subst hj; simp [hk, eq_comm]
  · simp [hj]

/-- The laws hold again once the slot takes a record that fits. -/
theorem State.tablesAround.tableLaw_setSlot {s : State} {k : SlotId} {t : ThreadId} {v : Slot}
    (h : s.tablesAround k t) (hv : v.fits t (s.thread t)) : (s.setSlot k v).tableLaw := by
  refine ⟨h.config, fun x j => ?_, fun j x hj => ?_, fun x hp => ?_, fun j x p a hj => ?_⟩
  · rw [State.thread_setSlot, h.binding x j, State.slot_setSlot]
    by_cases hj : j = k
    · simp [hj, hv.thread, eq_comm]
    · simp [hj]
  · rw [State.slot_setSlot] at hj ⊢
    rw [State.thread_setSlot]
    by_cases hjk : j = k
    · rw [if_pos hjk] at hj ⊢
      obtain rfl : t = x := by simpa [hv.thread] using hj
      exact ⟨hv.enabled, hv.retain⟩
    · rw [if_neg hjk] at hj ⊢
      exact h.bound j x hjk hj
  · rw [State.thread_setSlot] at hp
    by_cases hx : x = t
    · subst hx
      exact ⟨k, by simp [(h.binding x k)], by simpa using hv.pending hp⟩
    · obtain ⟨j, hb, hj⟩ := (State.tablesAround_setSlot v h).pending x hx hp
      exact ⟨j, hb, hj⟩
  · rw [State.slot_setSlot] at hj
    rw [State.thread_setSlot]
    by_cases hjk : j = k
    · rw [if_pos hjk] at hj
      obtain rfl : t = x := by simpa [hj, Slot.thread] using hv.thread.symm
      exact hv.law _ p a hj
    · rw [if_neg hjk] at hj
      exact h.slots j x p a hjk hj

/-- The laws hold again once the slot is FREE and its thread unbound, with no configuration pending (01 R24). -/
theorem State.tablesAround.tableLaw_freeSlot {s : State} {k : SlotId} {t : ThreadId}
    (h : s.tablesAround k t) (hp : (s.thread t).pending = none) : (s.freeSlot k t).tableLaw := by
  have hthread : ∀ x, (s.freeSlot k t).thread x = if x = t then { s.thread t with binding := none } else s.thread x := by
    intro x
    by_cases hx : x = t
    · subst hx; simp
    · simp [hx, State.thread_freeSlot_ne]
  have hslot : ∀ j, (s.freeSlot k t).slot j = if j = k then .free else s.slot j := by
    intro j
    by_cases hj : j = k
    · subst hj; simp
    · simp [hj, State.slot_freeSlot_ne]
  have hother : ∀ j x, j ≠ k → (s.slot j).thread = some x → x ≠ t := by
    rintro j x hj hx rfl
    have h1 := (h.binding x j).mpr (by simpa [hj] using hx)
    have h2 := (h.binding x k).mpr (by simp)
    exact hj (by simpa using h1.symm.trans h2)
  refine ⟨fun x => ?_, fun x j => ?_, fun j x hj => ?_, fun x hx => ?_, fun j x p a hj => ?_⟩
  · rw [hthread]
    by_cases hx : x = t
    · subst hx; simpa using h.config x
    · simpa [hx] using h.config x
  · rw [hthread, hslot]
    by_cases hj : j = k
    · subst hj
      by_cases hx : x = t
      · simp [hx, Slot.thread]
      · simpa [hx, Slot.thread] using mt (h.binding x j).mp (by simpa using hx)
    · by_cases hx : x = t
      · subst hx
        simpa [hj] using fun e => hother j x hj e rfl
      · simpa [hx, hj] using h.binding x j
  · rw [hslot] at hj ⊢
    by_cases hjk : j = k
    · rw [if_pos hjk] at hj; cases hj
    · rw [if_neg hjk] at hj ⊢
      rw [hthread, if_neg (hother j x hjk hj)]
      exact h.bound j x hjk hj
  · rw [hthread] at hx ⊢
    by_cases hxt : x = t
    · subst hxt; simp [hp] at hx
    · rw [if_neg hxt] at hx ⊢
      obtain ⟨j, hb, hj⟩ := h.pending x hxt hx
      have hjk : j ≠ k := by
        rintro rfl
        exact hxt (by simpa using (h.binding x j).mp hb)
      exact ⟨j, hb, by rw [hslot, if_neg hjk]; exact hj⟩
  · rw [hslot] at hj
    by_cases hjk : j = k
    · rw [if_pos hjk] at hj; cases hj
    · rw [if_neg hjk] at hj
      rw [hthread, if_neg (hother j x hjk (by simp [hj, Slot.thread]))]
      exact h.slots j x p a hjk hj

/-- A thread's configurations may be written while its slot is judged, where they are in range. -/
theorem State.tablesAround.setThread {s : State} {k : SlotId} {t : ThreadId} {e : ThreadEntry}
    (h : s.tablesAround k t) (hb : e.binding = (s.thread t).binding) (ha : e.active.inRange)
    (hp : ∀ c, e.pending = some c → c.inRange) : (s.setThread t e).tablesAround k t := by
  have hne : ∀ x, x ≠ t → (s.setThread t e).thread x = s.thread x :=
    fun x hx => State.thread_setThread_ne s t x e hx
  have hother : ∀ j x, j ≠ k → (s.slot j).thread = some x → x ≠ t := by
    rintro j x hj hx rfl
    have h1 := (h.binding x j).mpr (by simpa [hj] using hx)
    have h2 := (h.binding x k).mpr (by simp)
    exact hj (by simpa using h1.symm.trans h2)
  refine ⟨fun x => ?_, fun x j => ?_, fun j x hj hx => ?_, fun x hx hpx => ?_, fun j x p a hj hs => ?_⟩
  · by_cases hx : x = t
    · subst hx; simpa using ⟨ha, hp⟩
    · rw [hne x hx]; exact h.config x
  · rw [State.slot_setThread, ← h.binding x j]
    by_cases hx : x = t
    · subst hx; simp [hb]
    · rw [hne x hx]
  · rw [State.slot_setThread] at hx ⊢
    rw [hne x (hother j x hj hx)]
    exact h.bound j x hj hx
  · rw [hne x hx] at hpx ⊢
    exact h.pending x hx hpx
  · rw [State.slot_setThread] at hs
    rw [hne x (hother j x hj (by simp [hs, Slot.thread]))]
    exact h.slots j x p a hj hs

/-- The parcel-end signal leaves the tables in order around the slot (03 R56). -/
theorem State.tablesAround.signalParcelEnd {s : State} {k : SlotId} {t : ThreadId} (h : s.tablesAround k t) :
    (s.signalParcelEnd t).tablesAround k t := by
  refine h.setThread (by simp) ?_ (by simp)
  rw [ThreadEntry.endParcel_active]
  cases hp : (s.thread t).pending with
  | none => exact (h.config t).1
  | some c => exact (h.config t).2 c hp

/-- A FREE slot taken for an unbound thread (01 R5). -/
theorem State.tableLaw_bind {s : State} {k : SlotId} {t : ThreadId} (h : s.tableLaw) (hk : s.slot k = .free)
    (ht : (s.thread t).binding = none) : (s.setBinding t (some k)).tablesAround k t := by
  obtain ⟨hc, hb, hd, hp, hl⟩ := h
  have hne : ∀ x, x ≠ t → (s.setBinding t (some k)).thread x = s.thread x :=
    fun x hx => State.thread_setBinding_ne s t x _ hx
  have hother : ∀ j x, (s.slot j).thread = some x → x ≠ t := by
    rintro j x hx rfl
    simpa [ht] using (hb x j).mpr hx
  refine ⟨fun x => ?_, fun x j => ?_, fun j x _ hx => ?_, fun x hx hpx => ?_, fun j x p a _ hs => ?_⟩
  · by_cases hx : x = t
    · subst hx; simpa using hc x
    · rw [hne x hx]; exact hc x
  · rw [State.slot_setBinding]
    by_cases hx : x = t
    · subst hx
      by_cases hj : j = k
      · simp [hj]
      · simpa [hj, Ne.symm hj] using fun e => hother j x e rfl
    · rw [hne x hx, hb x j]
      by_cases hj : j = k
      · subst hj; simp [hk, hx, Slot.thread]
      · simp [hj]
  · rw [State.slot_setBinding] at hx ⊢
    rw [hne x (hother j x hx)]
    exact hd j x hx
  · rw [hne x hx] at hpx ⊢
    exact hp x hpx
  · rw [State.slot_setBinding] at hs
    rw [hne x (hother j x (by simp [hs, Slot.thread]))]
    exact hl j x p a hs

/-- A poison ends a judgement with the laws in force again (02 R42). -/
theorem State.tablesAround.tableLaw_poison {s : State} {k : SlotId} {t : ThreadId} (h : s.tablesAround k t)
    (he : (s.thread t).active.enabled = true) (stamp : PeriodNo) (held : List UnitNo) (g : Option Tag)
    (r : PoisonReason) : (s.poison k t stamp held g r).tableLaw := by
  refine (State.tablesAround_congr (s := s) ?_ ?_ h).tableLaw_setSlot (Slot.fits_skipping _ _ _ _ _ ?_)
  · simp
  · simp
  · simpa using he

end Sys2Proof.Machine
end

section
/-! SUPPORT. The laws of a parcel while shards are placed and the early list drains: distances and positions (01 R9), and what an append, a restart on F, an early hold and the next parcel leave of them (01 R14, R17, R18, 02 R28, R40). -/

namespace Sys2Proof.Machine

/-! ### Distances and positions (00 3.3, 01 R9) -/

theorem distance_eq_zero_iff (x y : Seq) : distance x y = 0 ↔ x = y := by
  unfold distance
  bv_omega

theorem distance_inj (x y z : Seq) (h : distance x z = distance y z) : x = y := by
  unfold distance at h
  bv_omega

/-- One shard further on, everything beyond is one nearer. -/
theorem distance_succ (x y : Seq) (h : 1 ≤ distance x y) : distance x (y + 1) = distance x y - 1 := by
  unfold distance at *
  bv_omega

/-- An entry's position is that of expected plus its distance, short of the wrap. -/
theorem position_eq_add_distance (x start expected : Seq) (n : Nat) (he : expected = start + BitVec.ofNat 8 n)
    (hn : n + distance x expected < 256) : position x start = n + distance x expected := by
  subst he
  unfold distance at *
  unfold position
  bv_omega

/-- The same with the number placed exactly that of expected's position. -/
theorem position_expected (start : Seq) (n : Nat) (hn : n < 256) : position (start + BitVec.ofNat 8 n) start = n := by
  unfold position
  bv_omega

/-! ### A parcel in the course of a placement -/

/-- The laws of a parcel at the moment the entry `e`, due at expected, is judged for its place: what is held lies beyond it,
there is room below the limit, and where `e` is no L, last-held and the limit stand for what is held. -/
structure Assembly.dueLaw (a : Assembly) (c : ThreadConfig) (e : EarlyEntry) : Prop where
  due : e.seq = a.expected
  early : a.earlyLaw c.window
  expected : a.expected = a.parcelStart + BitVec.ofNat 8 a.placed.length
  room : a.placed.length < c.limit
  tag : a.parcelTag.isSome = true ↔ a.placed ≠ []
  lastHeld : e.last = false → a.lastHeldLaw
  limit : e.last = false → a.earlyLimitLaw c.limit

/-- The laws of a parcel in the drain: as between two steps, but the head of the early list may be due. -/
structure Assembly.drainLaw (a : Assembly) (c : ThreadConfig) : Prop where
  order : a.early.Pairwise (fun e f => distance e.seq a.expected < distance f.seq a.expected)
  window : ∀ e ∈ a.early, distance e.seq a.expected ≤ c.window
  placed : a.placedLaw c.limit
  lastHeld : a.lastHeldLaw
  limit : a.earlyLimitLaw c.limit

theorem Assembly.law.drainLaw {a : Assembly} {c : ThreadConfig} (h : a.law c) : a.drainLaw c := by
  obtain ⟨⟨ho, hw⟩, hp, hh, hl⟩ := h
  exact ⟨ho, fun e he => (hw e he).2, hp, hh, hl⟩

/-- The drain over: with no entry due the laws between two steps hold. -/
theorem Assembly.drainLaw.law {a : Assembly} {c : ThreadConfig} (h : a.drainLaw c) (hd : notDue a.expected a.early) :
    a.law c := by
  refine ⟨⟨h.order, fun e he => ⟨?_, h.window e he⟩⟩, h.placed, h.lastHeld, h.limit⟩
  have ho := h.order
  cases hea : a.early with
  | nil => simp [hea] at he
  | cons f rest =>
    rw [hea] at he ho hd
    have hf : distance f.seq a.expected ≠ 0 := by
      rw [Ne, distance_eq_zero_iff]; exact (notDue_cons _ _ _).mp hd
    rcases List.mem_cons.mp he with rfl | he
    · omega
    · have := (List.pairwise_cons.mp ho).1 e he
      omega

/-- The position of an entry held early: as many further than expected's as its distance. -/
theorem Assembly.drainLaw.position {a : Assembly} {c : ThreadConfig} (h : a.drainLaw c) (hc : c.inRange)
    {e : EarlyEntry} (he : e ∈ a.early) : position e.seq a.parcelStart = a.placed.length + distance e.seq a.expected := by
  obtain ⟨hx, hn, -, -⟩ := h.placed
  obtain ⟨-, hlim, hwin, -, -⟩ := hc
  have hw := h.window e he
  exact position_eq_add_distance _ _ _ _ hx (by omega)

/-- The head of the early list, where it is due, may be placed: it lies below the limit, since it is at or below last-held. -/
theorem Assembly.drainLaw.dueLaw {a : Assembly} {c : ThreadConfig} (h : a.drainLaw c) (hc : c.inRange) {e : EarlyEntry}
    {rest : List EarlyEntry} (hea : a.early = e :: rest) (hd : e.seq = a.expected) :
    Assembly.dueLaw { a with early := rest } c e := by
  have hpos := fun f (hf : f ∈ a.early) => h.position hc hf
  have hzero : distance e.seq a.expected = 0 := (distance_eq_zero_iff _ _).mpr hd
  obtain ⟨hx, -, -, ht⟩ := h.placed
  have ho := h.order
  rw [hea] at ho
  obtain ⟨hhead, htail⟩ := List.pairwise_cons.mp ho
  have hmem : e ∈ a.early := by simp [hea]
  have hin : ∀ f ∈ rest, f ∈ a.early := fun f hf => by simp [hea, hf]
  refine ⟨hd, ⟨htail, fun f hf => ⟨?_, h.window f (hin f hf)⟩⟩, hx, ?_, ht, fun hl => ⟨fun i hi => ?_, fun f hf hfl => ?_⟩,
    fun _ f hf => h.limit f (hin f hf)⟩
  · have := hhead f hf
    show 1 ≤ distance f.seq a.expected
    omega
  · have hlt := h.limit e hmem fun i hi => by
      obtain ⟨f, hf, -, rfl⟩ := h.lastHeld.1 i hi
      rw [hpos e hmem, hpos f hf]
      omega
    rw [hpos e hmem] at hlt
    show a.placed.length < c.limit
    omega
  · obtain ⟨f, hf, hfl, hfi⟩ := h.lastHeld.1 i hi
    rw [hea] at hf
    rcases List.mem_cons.mp hf with rfl | hf
    · simp [hl] at hfl
    · exact ⟨f, hf, hfl, hfi⟩
  · exact h.lastHeld.2 f (hin f hf) hfl

/-- The entries held beyond a due shard, seen from the next expected: in order and within the window. -/
theorem Assembly.dueLaw.held {a : Assembly} {c : ThreadConfig} {e : EarlyEntry} (h : a.dueLaw c e) :
    a.early.Pairwise (fun f g => distance f.seq (a.expected + 1) < distance g.seq (a.expected + 1)) ∧
      ∀ f ∈ a.early, distance f.seq (a.expected + 1) ≤ c.window := by
  obtain ⟨ho, hw⟩ := h.early
  have hs : ∀ f ∈ a.early, distance f.seq (a.expected + 1) = distance f.seq a.expected - 1 :=
    fun f hf => distance_succ _ _ (hw f hf).1
  refine ⟨ho.imp_of_mem fun {f g} hf hg hfg => ?_, fun f hf => ?_⟩
  · rw [hs f hf, hs g hg]
    have := (hw f hf).1
    omega
  · rw [hs f hf]
    have := (hw f hf).2
    omega

/-- An append of a shard without L that joins the parcel (01 R14). -/
theorem Assembly.dueLaw.append {a : Assembly} {c : ThreadConfig} {e : EarlyEntry} (h : a.dueLaw c e)
    (hl : e.last = false) (s : State) (g : Tag) :
    (s.appendShard { a with parcelTag := some g } e).drainLaw c := by
  obtain ⟨ho, hw⟩ := h.held
  refine ⟨ho, hw, ⟨?_, ?_, ?_, ?_⟩, h.lastHeld hl, h.limit hl⟩
  · simp only [State.appendShard, List.length_append, List.length_singleton, h.expected]
    rw [BitVec.add_assoc, BitVec.ofNat_add]
    rfl
  · have := h.room
    simp only [State.appendShard, List.length_append, List.length_singleton]
    omega
  · simp [State.appendShard, Assembly.units]
  · simp [State.appendShard]

/-- The parcel a restart on F begins: due at its own start, last-held moved with the positions (02 R28). -/
theorem Assembly.dueLaw.restart {a : Assembly} {c : ThreadConfig} {e : EarlyEntry} (h : a.dueLaw c e) (hc : c.inRange)
    (s : State) (t : ThreadId) :
    (s.restartParcel t a e (Machine.position e.seq a.parcelStart)).1.dueLaw c e := by
  obtain ⟨hlim1, hlim, hwin, -, -⟩ := hc
  obtain ⟨ho, hw⟩ := h.early
  have hroom := h.room
  have hpe : Machine.position e.seq a.parcelStart = a.placed.length := by
    rw [h.due, h.expected]
    exact position_expected _ _ (by omega)
  have hpos : ∀ f ∈ a.early, Machine.position f.seq a.parcelStart = a.placed.length + distance f.seq a.expected := by
    intro f hf
    have := (hw f hf).2
    exact position_eq_add_distance _ _ _ _ h.expected (by omega)
  have hnew : ∀ f : EarlyEntry, Machine.position f.seq e.seq = distance f.seq a.expected := fun f => by rw [h.due]; rfl
  refine ⟨rfl, ?_, ?_, ?_, ?_, fun hl => ⟨fun i hi => ?_, fun f hf hfl => ?_⟩, fun hl f hf hle => ?_⟩
  · simpa only [State.restartParcel, Assembly.begin_, Assembly.earlyLaw, h.due] using And.intro ho hw
  · simp [State.restartParcel, Assembly.begin_]
  · simp only [State.restartParcel, Assembly.begin_, List.length_nil]
    omega
  · simp [State.restartParcel, Assembly.begin_]
  · simp only [State.restartParcel, Option.map_eq_some_iff] at hi
    obtain ⟨j, hj, rfl⟩ := hi
    obtain ⟨f, hf, hfl, rfl⟩ := (h.lastHeld hl).1 j hj
    refine ⟨f, hf, hfl, ?_⟩
    show Machine.position f.seq e.seq = _
    rw [hnew, hpe, hpos f hf]
    omega
  · obtain ⟨j, hj, hle⟩ := (h.lastHeld hl).2 f hf hfl
    refine ⟨j - Machine.position e.seq a.parcelStart, by simp [State.restartParcel, hj], ?_⟩
    show _ ≤ Machine.position f.seq e.seq
    have hf' := hpos f hf
    rw [hnew, hpe]
    omega
  · show Machine.position f.seq e.seq < c.limit
    have hf' := hpos f hf
    have hn := hnew f
    have hold := h.limit hl f hf fun j hj => by
      have h1 := hle (j - Machine.position e.seq a.parcelStart) (by simp [State.restartParcel, hj])
      change Machine.position f.seq e.seq ≤ _ at h1
      obtain ⟨f', hf', -, rfl⟩ := (h.lastHeld hl).1 j hj
      have := hpos f' hf'
      omega
    omega

/-! ### The next parcel (02 R40) -/

/-- What a re-judgement that passes has found: last-held names the lowest L kept, and what is not beyond it lies below the
limit. `held` is last-held so far; the entries come in order of position. -/
theorem rejudgeEntries_ok {limit : Nat} {start : Seq} {held result : Option Nat} {es : List EarlyEntry}
    (h : rejudgeEntries limit start held es = .ok result)
    (ho : es.Pairwise (fun e f => position e.seq start < position f.seq start))
    (hh : ∀ i, held = some i → ∀ e ∈ es, i < position e.seq start) :
    (∀ i, held = some i → result = some i) ∧
      (held = none → (∀ i, result = some i → ∃ e ∈ es, e.last = true ∧ position e.seq start = i) ∧
        (∀ e ∈ es, e.last = true → ∃ i, result = some i ∧ i ≤ position e.seq start) ∧
        ∀ e ∈ es, (∀ i, result = some i → position e.seq start ≤ i) → position e.seq start < limit) := by
  induction es generalizing held with
  | nil =>
    simp only [rejudgeEntries, Rejudged.ok.injEq] at h
    subst h
    simp +contextual
  | cons e rest ih =>
    obtain ⟨hhead, htail⟩ := List.pairwise_cons.mp ho
    unfold rejudgeEntries at h
    cases hheld : held with
    | some i =>
      have hi := hh i hheld
      have hb : held.any (fun j => decide (j < position e.seq start)) = true := by
        simpa [hheld] using hi e (by simp)
      rw [if_pos hb] at h
      have h' := ih h htail fun j hj f hf => hh j hj f (by simp [hf])
      exact ⟨fun j hj => h'.1 j (by rw [hheld, hj]), fun hn => by cases hn⟩
    | none =>
      subst hheld
      simp only [Option.any_none, Bool.false_eq_true, if_false] at h
      split at h
      · cases h
      · next hlim =>
        have hlt : position e.seq start < limit := by omega
        refine ⟨nofun, fun _ => ?_⟩
        split at h
        · next hlast =>
          split at h
          · have h' := (ih h htail fun j hj f hf => by cases hj; exact hhead f hf).1 _ rfl
            subst h'
            refine ⟨fun i hi => ⟨e, by simp, hlast, by simpa using hi⟩, fun f hf _ => ⟨_, rfl, ?_⟩, fun f hf hle => ?_⟩
            · rcases List.mem_cons.mp hf with rfl | hf
              · exact le_refl _
              · exact (hhead f hf).le
            · exact lt_of_le_of_lt (hle _ rfl) hlt
          · cases h
        · next hlast =>
          obtain ⟨h1, h2, h3⟩ := (ih h htail nofun).2 rfl
          refine ⟨fun i hi => ?_, fun f hf hfl => ?_, fun f hf hle => ?_⟩
          · obtain ⟨f, hf, hfl⟩ := h1 i hi
            exact ⟨f, by simp [hf], hfl⟩
          · rcases List.mem_cons.mp hf with rfl | hf
            · exact absurd hfl hlast
            · exact h2 f hf hfl
          · rcases List.mem_cons.mp hf with rfl | hf
            · exact hlt
            · exact h3 f hf hle

/-- The next parcel of a retain thread meets the laws of the drain (02 R40). -/
theorem Assembly.nextParcel_drainLaw {c : ThreadConfig} {start : Seq} {held : List EarlyEntry} {lastHeld : Option Nat}
    (h : rejudgeEntries c.limit start none held = .ok lastHeld) (hne : held ≠ [])
    (ho : held.Pairwise (fun e f => distance e.seq start < distance f.seq start))
    (hw : ∀ e ∈ held, distance e.seq start ≤ c.window) :
    Assembly.drainLaw { Assembly.begin_ start with early := held, lastHeld := lastHeld } c := by
  obtain ⟨h1, h2, h3⟩ := (rejudgeEntries_ok h ho nofun).2 rfl
  refine ⟨ho, hw, ⟨by simp [Assembly.begin_], Nat.zero_le _, by simpa [Assembly.units, Assembly.begin_] using hne,
    by simp [Assembly.begin_]⟩, ⟨h1, h2⟩, h3⟩

/-! ### A shard held early (01 R18) -/

/-- Where an entry is inserted: behind those no further than it, before the first that is further (01 R18). -/
theorem insertEarly_split (x : Seq) (e : EarlyEntry) (l : List EarlyEntry) :
    ∃ before after, l = before ++ after ∧ insertEarly x e l = before ++ e :: after ∧
      (∀ f ∈ before, distance f.seq x ≤ distance e.seq x) ∧ ∀ f ∈ after.head?, distance e.seq x < distance f.seq x := by
  induction l with
  | nil => exact ⟨[], [], rfl, rfl, nofun, nofun⟩
  | cons f rest ih =>
    unfold insertEarly
    by_cases hlt : distance e.seq x < distance f.seq x
    · exact ⟨[], f :: rest, rfl, if_pos hlt, nofun, by simpa using hlt⟩
    · obtain ⟨before, after, hl, hi, hb, ha⟩ := ih
      refine ⟨f :: before, after, by rw [hl, List.cons_append], by rw [if_neg hlt, hi, List.cons_append],
        fun g hg => ?_, ha⟩
      rcases List.mem_cons.mp hg with rfl | hg
      · exact Nat.not_lt.mp hlt
      · exact hb g hg

theorem mem_insertEarly (x : Seq) (e f : EarlyEntry) (l : List EarlyEntry) :
    f ∈ insertEarly x e l ↔ f = e ∨ f ∈ l := by
  obtain ⟨before, after, rfl, hi, -, -⟩ := insertEarly_split x e l
  rw [hi]
  simp only [List.mem_append, List.mem_cons]
  tauto

/-- An entry inserted among entries of other sequences keeps the order of increasing distance. -/
theorem insertEarly_pairwise (x : Seq) (e : EarlyEntry) (l : List EarlyEntry) (hn : ∀ f ∈ l, f.seq ≠ e.seq)
    (h : l.Pairwise (fun e f => distance e.seq x < distance f.seq x)) :
    (insertEarly x e l).Pairwise (fun e f => distance e.seq x < distance f.seq x) := by
  induction l with
  | nil => simp [insertEarly]
  | cons f rest ih =>
    obtain ⟨hhead, htail⟩ := List.pairwise_cons.mp h
    unfold insertEarly
    split
    · next hlt =>
      refine List.pairwise_cons.mpr ⟨fun g hg => ?_, h⟩
      rcases List.mem_cons.mp hg with rfl | hg
      · exact hlt
      · exact lt_trans hlt (hhead g hg)
    · next hlt =>
      refine List.pairwise_cons.mpr ⟨fun g hg => ?_, ih (fun g hg => hn g (by simp [hg])) htail⟩
      rcases (mem_insertEarly x e g rest).mp hg with rfl | hg
      · have : distance f.seq x ≠ distance g.seq x := fun e => hn f (by simp) (distance_inj _ _ _ e)
        omega
      · exact hhead g hg

/-- A shard held early keeps the laws of the parcel: an entry of the next parcel leaves last-held, one of the parcel in
progress lies below the limit and sets last-held where it is an L (01 R11 steps 4 and 8, R18, 02 R31). -/
theorem Assembly.law_hold {a : Assembly} {c : ThreadConfig} {e : EarlyEntry} {lastHeld : Option Nat}
    (ho : a.earlyLaw c.window)
    (hx : a.expected = a.parcelStart + BitVec.ofNat 8 a.placed.length) (hn : a.placed.length ≤ c.limit)
    (ht : a.parcelTag.isSome = true ↔ a.placed ≠ []) (hh : a.lastHeldLaw) (hl : a.earlyLimitLaw c.limit)
    (hd : 1 ≤ distance e.seq a.expected) (hw : distance e.seq a.expected ≤ c.window)
    (hs : ∀ f ∈ a.early, f.seq ≠ e.seq)
    (hlast : (∃ i, a.lastHeld = some i ∧ i < Machine.position e.seq a.parcelStart) ∧ lastHeld = a.lastHeld ∨
      (∀ i, a.lastHeld = some i → Machine.position e.seq a.parcelStart ≤ i) ∧
        Machine.position e.seq a.parcelStart < c.limit ∧
        lastHeld = if e.last then some (Machine.position e.seq a.parcelStart) else a.lastHeld) :
    (a.hold e lastHeld).law c := by
  have hmem : ∀ f, f ∈ (a.hold e lastHeld).early ↔ f = e ∨ f ∈ a.early := fun f => mem_insertEarly _ _ _ _
  refine ⟨⟨insertEarly_pairwise _ _ _ hs ho.1, fun f hf => ?_⟩, ⟨hx, hn, ?_, ht⟩, ?_, ?_⟩
  · rcases (hmem f).mp hf with rfl | hf
    · exact ⟨hd, hw⟩
    · exact ho.2 f hf
  · intro hu
    have he := (hmem e).mpr (.inl rfl)
    simp only [Assembly.units, List.append_eq_nil_iff, List.map_eq_nil_iff] at hu
    simp [hu.2] at he
  · rcases hlast with ⟨⟨i, hi, hlt⟩, rfl⟩ | ⟨hle, -, rfl⟩
    · refine ⟨fun j hj => ?_, fun f hf hfl => ?_⟩
      · obtain ⟨f, hf, h⟩ := hh.1 j hj
        exact ⟨f, (hmem f).mpr (.inr hf), h⟩
      · rcases (hmem f).mp hf with rfl | hf
        · exact ⟨i, hi, hlt.le⟩
        · exact hh.2 f hf hfl
    · cases hel : e.last with
      | true =>
        refine ⟨fun j hj => ⟨e, (hmem e).mpr (.inl rfl), hel, by simpa [Assembly.hold] using hj⟩, fun f hf hfl => ?_⟩
        refine ⟨_, rfl, ?_⟩
        rcases (hmem f).mp hf with rfl | hf
        · exact le_refl _
        · obtain ⟨j, hj, hjf⟩ := hh.2 f hf hfl
          exact le_trans (hle j hj) hjf
      | false =>
        refine ⟨fun j hj => ?_, fun f hf hfl => ?_⟩
        · obtain ⟨f, hf, h⟩ := hh.1 j hj
          exact ⟨f, (hmem f).mpr (.inr hf), h⟩
        · rcases (hmem f).mp hf with rfl | hf
          · simp [hel] at hfl
          · exact hh.2 f hf hfl
  · rcases hlast with ⟨⟨i, hi, hlt⟩, rfl⟩ | ⟨hle, hlim, rfl⟩
    · intro f hf hfi
      rcases (hmem f).mp hf with rfl | hf
      · exact absurd (hfi i hi) (Nat.not_le.mpr hlt)
      · exact hl f hf hfi
    · intro f hf hfi
      rcases (hmem f).mp hf with rfl | hf
      · exact hlim
      · cases hel : e.last with
        | true => exact lt_of_le_of_lt (hfi _ (by simp [Assembly.hold, hel])) hlim
        | false => exact hl f hf fun i hi => hfi i (by simpa [Assembly.hold, hel] using hi)

end Sys2Proof.Machine
end

section
/-! SUPPORT. The judgement of a data shard keeps the laws of the tables: placement, completion, the drain, and each slot state in turn (01, 02). -/

namespace Sys2Proof.Machine

/-! ### What a placement may answer -/

/-- A placement's answer that keeps the tables in order: over with every law in force, or to go on with the tables in order
around the slot and the parcel in the drain. -/
def Placed.sound (p : Placed) (k : SlotId) (t : ThreadId) (early : List EarlyEntry) : Prop :=
  match p with
  | .over z => z.tableLaw
  | .more b z => z.tablesAround k t ∧ (z.thread t).active.enabled = true ∧ b.drainLaw (z.thread t).active ∧ b.early = early

/-- A parcel that ends leaves its slot RESTING or FREE, with every law in force (02 R39, 03 R56, R57). -/
theorem State.tablesAround.rests {s : State} {k : SlotId} {t : ThreadId} (h : s.tablesAround k t)
    (hp : (s.thread t).pending = none) (hr : ((s.thread t).active.retain && (s.thread t).active.enabled) = true)
    (stamp : PeriodNo) (x : Seq) : ((s.setSlot k (.resting t stamp x)).reportSlot).tableLaw := by
  obtain ⟨hr, he⟩ := Bool.and_eq_true_iff.mp hr
  exact State.tableLaw_congr rfl rfl (h.tableLaw_setSlot (Slot.fits_resting _ _ _ _ he hr hp))

theorem State.tablesAround.frees {s : State} {k : SlotId} {t : ThreadId} (h : s.tablesAround k t)
    (hp : (s.thread t).pending = none) : ((s.freeSlot k t).reportSlot).tableLaw :=
  State.tableLaw_congr rfl rfl (h.tableLaw_freeSlot hp)

/-- A signalled thread without a pending configuration is as it was. -/
theorem State.signalParcelEnd_idle (s : State) (t : ThreadId) (h : (s.thread t).pending = none) (x : ThreadId) :
    (s.signalParcelEnd t).thread x = s.thread x := by
  by_cases hx : x = t
  · subst hx
    simp [ThreadEntry.endParcel, h]
  · exact State.thread_signalParcelEnd_ne s t x hx

/-- The parcel's end after a seal or a completion discard (02 R39 to R41). -/
theorem State.finishParcel_sound {s : State} {k : SlotId} {t : ThreadId} (h : s.tablesAround k t)
    (he : (s.thread t).active.enabled = true) (stamp : PeriodNo) (x : Seq) (held : List EarlyEntry)
    (ho : held.Pairwise (fun e f => distance e.seq x < distance f.seq x))
    (hw : ∀ e ∈ held, distance e.seq x ≤ (s.thread t).active.window) :
    (s.finishParcel k t stamp x held).sound k t held := by
  have h1 := h.signalParcelEnd
  have hp1 : ((s.signalParcelEnd t).thread t).pending = none := by simp
  unfold State.finishParcel
  cases hp : (s.thread t).pending with
  | some c =>
    simp only [Option.isSome_some, if_true]
    have h2 : ((s.signalParcelEnd t).dropEntries held .displaced).tablesAround k t :=
      State.tablesAround_congr (by simp) (by simp) h1
    split
    · next hr => exact h2.rests (by simp) hr stamp x
    · exact State.tablesAround.frees (State.tablesAround_congr (by simp) (by simp) h2) (by simp)
  | none =>
    have hsame := State.signalParcelEnd_idle s t hp
    simp only [Option.isSome_none, Bool.false_eq_true, if_false]
    split
    · next hr =>
      split
      · exact h1.rests hp1 hr stamp x
      · next hne =>
        split
        · exact State.tablesAround.rests (State.tablesAround_congr (by simp) (by simp) h1) (by simp)
            (by rw [State.thread_dropEntries]; exact hr) stamp x
        · have he1 : ((s.signalParcelEnd t).thread t).active.enabled = true := by rw [hsame]; exact he
          unfold State.nextParcel
          split
          · next lastHeld hok =>
            refine ⟨h1, he1, ?_, rfl⟩
            exact Assembly.nextParcel_drainLaw hok hne ho (by rw [hsame]; exact hw)
          · exact h1.tableLaw_poison he1 _ _ _ _
    · exact State.tablesAround.frees (State.tablesAround_congr (by simp) (by simp) h1) (by simp)

/-! ### Placement and drain (01 1.7) -/

theorem State.placePassed_sound {s : State} {k : SlotId} {t : ThreadId} {a : Assembly} {e : EarlyEntry}
    (h : s.tablesAround k t) (he : (s.thread t).active.enabled = true) (ha : a.dueLaw (s.thread t).active e)
    (stamp : PeriodNo) (g : Tag) :
    (s.placePassed k t stamp { a with parcelTag := some g } e).sound k t a.early := by
  unfold State.placePassed
  dsimp only
  cases hl : e.last with
  | false => exact ⟨h, he, ha.append hl s g, rfl⟩
  | true =>
    obtain ⟨ho, hw⟩ := ha.held
    exact State.finishParcel_sound (State.tablesAround_congr (by simp) (by simp) h) (by simpa using he) stamp _ _ ho
      (by rw [State.thread_sealParcel]; exact hw)

/-- A placement keeps the tables in order, whatever the shard's marks and tag (01 R14, 02 R27 to R29). -/
theorem State.placeShard_sound {s : State} {k : SlotId} {t : ThreadId} {a : Assembly} {e : EarlyEntry}
    (h : s.tablesAround k t) (he : (s.thread t).active.enabled = true) (ha : a.dueLaw (s.thread t).active e)
    (stamp : PeriodNo) : (s.placeShard k t stamp a e).sound k t a.early := by
  unfold State.placeShard
  split
  · split
    · exact State.placePassed_sound h he ha stamp e.tag
    · exact h.tableLaw_poison he _ _ _ _
  · split
    · exact State.placePassed_sound (State.tablesAround_congr (by simp) (by simp) h) (by simpa using he)
        (by simpa using ha.restart (h.config t).1 s t) stamp e.tag
    · split
      · next htag =>
        have hp := State.placePassed_sound h he ha stamp e.tag
        rwa [← htag] at hp
      · exact h.tableLaw_poison he _ _ _ _

/-- The drain ends with every law in force: each placement takes one entry, so the fuel runs out with the list (01 R17). -/
theorem State.drainEarly_tableLaw {k : SlotId} {t : ThreadId} {stamp : PeriodNo} (n : Nat) {a : Assembly} {s : State}
    (h : s.tablesAround k t) (he : (s.thread t).active.enabled = true) (ha : a.drainLaw (s.thread t).active)
    (hn : a.early.length = n) : (State.drainEarly k t stamp n a s).tableLaw := by
  have hstop : notDue a.expected a.early → (s.setSlot k (.assembling t stamp a)).tableLaw := fun hd =>
    h.tableLaw_setSlot (Slot.fits_assembling _ _ _ _ he (ha.law hd))
  induction n generalizing a s with
  | zero => exact hstop (by simp [List.length_eq_zero_iff.mp hn])
  | succ n ih =>
    unfold State.drainEarly
    split
    · next hea => simp [hea] at hn
    · next e rest hea =>
      split
      · next hd =>
        have hp := State.placeShard_sound h he (ha.dueLaw (h.config t).1 hea hd) stamp
        split
        · next z hz => rw [hz] at hp; exact hp
        · next b z hz =>
          rw [hz] at hp
          obtain ⟨hz1, hz2, hz3, hz4⟩ := hp
          refine ih hz1 hz2 hz3 (by rw [hz4]; simpa [hea] using hn) fun hd => ?_
          exact hz1.tableLaw_setSlot (Slot.fits_assembling _ _ _ _ hz2 (hz3.law hd))
      · next hd => exact hstop (by rw [hea]; simpa using hd)

/-- A due shard placed at arrival, and the drain behind it (01 R16, R17). -/
theorem State.placeAndDrain_tableLaw {s : State} {k : SlotId} {t : ThreadId} {a : Assembly} {e : EarlyEntry}
    (h : s.tablesAround k t) (he : (s.thread t).active.enabled = true) (ha : a.dueLaw (s.thread t).active e)
    (stamp : PeriodNo) : (s.placeAndDrain k t stamp a e).tableLaw := by
  have hp := State.placeShard_sound h he ha stamp
  unfold State.placeAndDrain
  split
  · next z hz => rw [hz] at hp; exact hp
  · next b z hz =>
    rw [hz] at hp
    obtain ⟨hz1, hz2, hz3, -⟩ := hp
    exact State.drainEarly_tableLaw _ hz1 hz2 hz3 rfl

/-! ### The judgements of the slot states -/

/-- The fields of a parcel just begun meet the laws of a placement (01 R22). -/
theorem Assembly.begin_dueLaw (sh : DataShard) (u : UnitNo) {c : ThreadConfig} (hc : c.inRange) :
    (Assembly.begin_ sh.seq).dueLaw c (sh.entry u) := by
  refine ⟨rfl, ⟨.nil, nofun⟩, by simp [Assembly.begin_], hc.1, by simp [Assembly.begin_], fun _ => ⟨nofun, nofun⟩,
    fun _ => nofun⟩

/-- A parcel started at a shard carrying F (01 R5, R22). -/
theorem State.startParcel_tableLaw {s : State} {k : SlotId} {sh : DataShard} (h : s.tablesAround k sh.thread)
    (he : (s.thread sh.thread).active.enabled = true) : (s.startParcel k sh).tableLaw := by
  unfold State.startParcel
  dsimp only
  split
  · exact h.tableLaw_poison he _ _ _ _
  · next u z hz =>
    obtain ⟨hs, ht⟩ := State.claim_tables s z _ _ u hz
    have h' := State.tablesAround_congr hs ht h
    have he' : (z.thread sh.thread).active.enabled = true := by rw [State.thread_congr s z _ ht]; exact he
    split
    · exact h'.tableLaw_poison he' _ _ _ _
    · exact State.placeAndDrain_tableLaw h' he' (Assembly.begin_dueLaw sh u (h'.config _).1) _

/-- A claim made, and the shard held early with the unit (01 R18). -/
theorem State.tablesAround.tableLaw_hold {s z : State} {k : SlotId} {sh : DataShard} {u : UnitNo} {c : ClassId} {a : Assembly}
    (h : s.tablesAround k sh.thread) (he : (s.thread sh.thread).active.enabled = true)
    (hz : s.claim c sh.payload = .taken u z) (ha : a.law (s.thread sh.thread).active) (stamp : PeriodNo) :
    (z.setSlot k (.assembling sh.thread stamp a)).tableLaw := by
  obtain ⟨hs, ht⟩ := State.claim_tables s z _ _ u hz
  refine (State.tablesAround_congr hs ht h).tableLaw_setSlot ?_
  rw [State.thread_congr s z _ ht]
  exact Slot.fits_assembling _ _ _ _ he ha

theorem State.judgeResting_tableLaw {s : State} {k : SlotId} {sh : DataShard} {x : Seq} (hs : s.tableLaw)
    (h : s.tablesAround k sh.thread) (he : (s.thread sh.thread).active.enabled = true) :
    (s.judgeResting k x sh).tableLaw := by
  unfold State.judgeResting
  dsimp only
  split
  · split
    · exact State.startParcel_tableLaw h he
    · exact h.tableLaw_poison he _ _ _ _
  · next hd0 =>
    split
    · exact State.tableLaw_congr rfl rfl hs
    · split
      · exact h.tableLaw_poison he _ _ _ _
      · next hw =>
        split
        · exact h.tableLaw_poison he _ _ _ _
        · next hlim =>
          split
          · exact h.tableLaw_poison he _ _ _ _
          · split
            · exact h.tableLaw_poison he _ _ _ _
            · next u z hz =>
              refine h.tableLaw_hold he hz (Assembly.law_hold (a := Assembly.begin_ x) (e := sh.entry u)
                ⟨.nil, nofun⟩ (by simp [Assembly.begin_]) (Nat.zero_le _) (by simp [Assembly.begin_]) ⟨nofun, nofun⟩ nofun
                (Nat.one_le_iff_ne_zero.mpr hd0) (Nat.not_lt.mp hw) nofun (.inr ⟨nofun, Nat.not_le.mp hlim, rfl⟩)) _

/-- A shard beyond a held L is not due: every held L lies beyond expected, short of the wrap (01 R11 step 4). -/
theorem Assembly.law.beyondLast_not_due {a : Assembly} {c : ThreadConfig} (h : a.law c) (hc : c.inRange) {x : Seq} {i : Nat}
    (hi : a.lastHeld = some i) (hlt : i < Machine.position x a.parcelStart) : distance x a.expected ≠ 0 := by
  obtain ⟨f, hf, -, rfl⟩ := h.2.2.1.1 i hi
  have hpf := h.drainLaw.position hc hf
  intro hd
  rw [(distance_eq_zero_iff _ _).mp hd, h.2.1.1, position_expected] at hlt
  · omega
  · have := h.2.1.2.1
    obtain ⟨-, _, -⟩ := hc
    omega

theorem State.judgeAssembling_tableLaw {s : State} {k : SlotId} {sh : DataShard} {a : Assembly} (hs : s.tableLaw)
    (h : s.tablesAround k sh.thread) (he : (s.thread sh.thread).active.enabled = true)
    (ha : a.law (s.thread sh.thread).active) : (s.judgeAssembling k a sh).tableLaw := by
  have hc := (h.config sh.thread).1
  have ⟨hearly, ⟨hx, hn, _, ht⟩, hh, hl⟩ := ha
  unfold State.judgeAssembling
  dsimp only
  split
  · exact State.tableLaw_congr rfl rfl hs
  split
  · exact h.tableLaw_poison he _ _ _ _
  next hw =>
  split
  · exact State.tableLaw_congr rfl rfl hs
  next hdup =>
  have hfresh : distance sh.seq a.expected ≠ 0 → ∀ f ∈ a.early, f.seq ≠ sh.seq := fun hd f hf hfs =>
    hdup ⟨hd, List.any_eq_true.mpr ⟨f, hf, by simpa using hfs⟩⟩
  split
  · next hb =>
    obtain ⟨i, hi, hlt⟩ : ∃ i, a.lastHeld = some i ∧ i < position sh.seq a.parcelStart := by
      simpa [Assembly.beyondLast, Option.any_eq_true] using hb
    have hd := ha.beyondLast_not_due hc hi hlt
    split
    · split
      · exact h.tableLaw_poison he _ _ _ _
      · next u z hz =>
        exact h.tableLaw_hold he hz (Assembly.law_hold (e := sh.entry u) hearly hx hn ht hh hl
          (Nat.one_le_iff_ne_zero.mpr hd) (Nat.not_lt.mp hw) (hfresh hd) (.inl ⟨⟨i, hi, hlt⟩, rfl⟩)) _
    · exact State.tableLaw_congr (by simp) (by simp) hs
  next hb =>
  have hle : ∀ i, a.lastHeld = some i → position sh.seq a.parcelStart ≤ i := by
    intro i hi
    simpa [Assembly.beyondLast, hi] using hb
  split
  · exact h.tableLaw_poison he _ _ _ _
  next hlim =>
  split
  · exact h.tableLaw_poison he _ _ _ _
  split
  · exact h.tableLaw_poison he _ _ _ _
  next u z hz =>
  split
  · next hd =>
    obtain ⟨hzs, hzt⟩ := State.claim_tables s z _ _ u hz
    have hthread := State.thread_congr s z sh.thread hzt
    have hdue : sh.seq = a.expected := (distance_eq_zero_iff _ _).mp hd
    refine State.placeAndDrain_tableLaw (State.tablesAround_congr hzs hzt h) (by rw [hthread]; exact he) ?_ _
    rw [hthread]
    refine ⟨hdue, hearly, hx, ?_, ht, fun _ => hh, fun _ => hl⟩
    rw [hdue, hx, position_expected _ _ (by have := hc.2.1; omega)] at hlim
    omega
  · next hd =>
    exact h.tableLaw_hold he hz (Assembly.law_hold (e := sh.entry u) hearly hx hn ht hh hl
      (Nat.one_le_iff_ne_zero.mpr hd) (Nat.not_lt.mp hw) (hfresh hd) (.inr ⟨hle, Nat.not_le.mp hlim, rfl⟩)) _

theorem State.endSkip_tableLaw {s : State} {k : SlotId} {t : ThreadId} (h : s.tablesAround k t) (x : Seq) :
    (s.endSkip k t x).tableLaw := by
  unfold State.endSkip
  dsimp only
  split
  · next hr => exact h.signalParcelEnd.rests (by simp) hr _ _
  · exact h.signalParcelEnd.frees (by simp)

theorem State.endSkipOnF_tableLaw {s : State} {k : SlotId} {sh : DataShard} (h : s.tablesAround k sh.thread) :
    (s.endSkipOnF k sh).tableLaw := by
  unfold State.endSkipOnF
  dsimp only
  split
  · next he => exact State.startParcel_tableLaw h.signalParcelEnd he
  · exact State.tableLaw_congr rfl rfl (h.signalParcelEnd.frees (by simp))

theorem State.judgeSkipping_tableLaw {s : State} {k : SlotId} {sh : DataShard} {g : Option Tag} (hs : s.tableLaw)
    (h : s.tablesAround k sh.thread) : (s.judgeSkipping k g sh).tableLaw := by
  have hskip : (s.bumpDrop .skipped).tablesAround k sh.thread := State.tablesAround_congr (s := s) rfl rfl h
  have hstay : (s.bumpDrop .skipped).tableLaw := State.tableLaw_congr rfl rfl hs
  unfold State.judgeSkipping
  split
  · split
    · exact State.endSkip_tableLaw hskip _
    · exact hstay
  · split
    · exact State.endSkipOnF_tableLaw h
    · split
      · exact State.endSkip_tableLaw hskip _
      · exact hstay

/-! ### Unbound threads (01 1.2) -/

theorem State.lowestFree_free {s : State} {k : SlotId} (h : s.lowestFree = some k) : s.slot k = .free := by
  simpa using List.find?_some h

/-- Every step of the weighing keeps a RESTING slot, or none (01 R6). -/
theorem State.foldl_olderResting_resting (s : State) (js : List SlotId) (best : Option (SlotId × Nat))
    (hb : ∀ b, best = some b → s.restingAge b.1 = some b.2) (b : SlotId × Nat)
    (h : js.foldl s.olderResting best = some b) : s.restingAge b.1 = some b.2 := by
  induction js generalizing best with
  | nil => exact hb b h
  | cons j js ih =>
    refine ih (s.olderResting best j) (fun c hc => ?_) h
    unfold State.olderResting at hc
    split at hc
    · exact hb c hc
    · next age hage =>
      split at hc
      · cases hc; exact hage
      · split at hc
        · cases hc; exact hage
        · cases hc; exact hb _ rfl

theorem State.restingAge_some {s : State} {k : SlotId} {n : Nat} (h : s.restingAge k = some n) :
    ∃ t p x, s.slot k = .resting t p x ∧ n = (s.aging.periodNo - p).toNat := by
  unfold State.restingAge at h
  split at h
  · next t p x hk => exact ⟨t, p, x, hk, (Option.some.inj h).symm⟩
  all_goals cases h

theorem State.oldestResting_resting {s : State} {k : SlotId} (h : s.oldestResting = some k) :
    ∃ t p x, s.slot k = .resting t p x := by
  obtain ⟨b, hb, rfl⟩ := Option.map_eq_some_iff.mp h
  obtain ⟨t, p, x, hk, -⟩ := State.restingAge_some (s.foldl_olderResting_resting _ none nofun b hb)
  exact ⟨t, p, x, hk⟩

/-- An eviction unbinds the thread of the slot, which its record still names until the new parcel's is written (01 R6). -/
theorem State.evict_resting {s : State} {k : SlotId} {t : ThreadId} {p : PeriodNo} {x : Seq}
    (h : s.slot k = .resting t p x) : s.evict k = (s.setBinding t none).bumpDrop .evictions := by
  simp [State.evict, h, Slot.thread]

/-- A RESTING slot taken from its thread for an unbound one: as though it had been freed first (01 R6). -/
theorem State.tableLaw_evict {s : State} {k : SlotId} {t x : ThreadId} {p : PeriodNo} {y : Seq} (h : s.tableLaw)
    (hk : s.slot k = .resting t p y) (hx : (s.thread x).binding = none) :
    ((s.evict k).setBinding x (some k)).tablesAround k x := by
  have hpend : (s.thread t).pending = none := by
    by_contra hp
    obtain ⟨j, hj, hbusy⟩ := h.2.2.2.1 t (Option.isSome_iff_ne_none.mpr hp)
    obtain rfl : k = j := Option.some.inj (((h.2.1 t k).mpr (by simp [hk, Slot.thread])).symm.trans hj)
    simp [hk, Slot.busy] at hbusy
  have hfree : (s.freeSlot k t).tableLaw :=
    (State.tableLaw_tablesAround h (by simp [hk, Slot.thread])).tableLaw_freeSlot hpend
  have hxf : ((s.freeSlot k t).thread x).binding = none := by
    by_cases hxt : x = t
    · subst hxt; simp
    · rw [State.thread_freeSlot_ne _ _ _ _ hxt]; exact hx
  have hbound := State.tablesAround_setSlot (s.slot k) (State.tableLaw_bind (k := k) hfree (by simp) hxf)
  refine State.tablesAround_congr ?_ ?_ hbound
  · rw [State.evict_resting hk]
    simp [State.freeSlot, State.setSlot, State.slot]
  · rw [State.evict_resting hk]
    rfl

theorem State.bindSlot_tableLaw {s : State} {k : SlotId} {sh : DataShard}
    (h : (s.setBinding sh.thread (some k)).tablesAround k sh.thread)
    (he : (s.thread sh.thread).active.enabled = true) : (s.bindSlot k sh).tableLaw :=
  State.startParcel_tableLaw h (by simpa using he)

theorem State.takeUnbound_tableLaw {s : State} {sh : DataShard} (h : s.tableLaw)
    (he : (s.thread sh.thread).active.enabled = true) (hb : (s.thread sh.thread).binding = none) :
    (s.takeUnbound sh).tableLaw := by
  unfold State.takeUnbound
  split
  · split
    · next k hk => exact State.bindSlot_tableLaw (State.tableLaw_bind h (State.lowestFree_free hk) hb) he
    · split
      · next k hk =>
        obtain ⟨t, p, x, hkr⟩ := State.oldestResting_resting hk
        refine State.bindSlot_tableLaw (State.tableLaw_evict h hkr hb) ?_
        rw [State.evict_resting hkr, State.thread_bumpDrop]
        by_cases hst : sh.thread = t
        · rw [← hst, State.thread_setBinding_self]; exact he
        · rw [State.thread_setBinding_ne _ _ _ _ hst]; exact he
      · exact State.tableLaw_congr (by simp) (by simp) h
  · exact State.tableLaw_congr (by simp) (by simp) h

/-! ### The Slot Table takes a shard -/

/-- A refreshed stamp keeps the laws (01 R8). -/
theorem State.restamp_tableLaw {s : State} {k : SlotId} {t : ThreadId} (h : s.tableLaw)
    (hk : (s.slot k).thread = some t) (now : PeriodNo) : (s.setSlot k ((s.slot k).restamp now)).tableLaw := by
  have ⟨_, hbind, hbound, hpend, hslots⟩ := h
  refine (State.tableLaw_tablesAround h hk).tableLaw_setSlot ?_
  obtain ⟨he, hr⟩ := hbound k t hk
  have hbusy : (s.thread t).pending.isSome = true → (s.slot k).busy = true := fun hp => by
    obtain ⟨j, hj, hb⟩ := hpend t hp
    rwa [Option.some.inj (((hbind t k).mpr hk).symm.trans hj)]
  cases hsk : s.slot k with
  | free => simp [hsk, Slot.thread] at hk
  | assembling x p a =>
    obtain rfl : x = t := by simpa [hsk, Slot.thread] using hk
    exact Slot.fits_assembling _ _ _ _ he (hslots k x p a hsk)
  | skipping x p g r =>
    obtain rfl : x = t := by simpa [hsk, Slot.thread] using hk
    exact Slot.fits_skipping _ _ _ _ _ he
  | resting x p y =>
    obtain rfl : x = t := by simpa [hsk, Slot.thread] using hk
    refine Slot.fits_resting _ _ _ _ he (hr (by simp [hsk, Slot.state])) ?_
    by_contra hp
    simpa [hsk, Slot.busy] using hbusy (Option.isSome_iff_ne_none.mpr hp)

/-- The Slot Table keeps the laws of the tables for every data shard of an enabled thread (01 R8, 07 R117). -/
theorem State.takeShard_tableLaw {s : State} {sh : DataShard} (h : s.tableLaw)
    (he : (s.thread sh.thread).active.enabled = true) : (s.takeShard sh).tableLaw := by
  have ⟨_, hbind, _, _, hslots⟩ := h
  unfold State.takeShard
  cases hb : (s.thread sh.thread).binding with
  | none => simpa [State.boundSlot, hb] using State.takeUnbound_tableLaw h he hb
  | some k =>
    have hk : (s.slot k).thread = some sh.thread := (hbind _ _).mp hb
    have hfree : s.slot k ≠ .free := fun hf => by simp [hf, Slot.thread] at hk
    have hs1 := State.restamp_tableLaw h hk s.aging.periodNo
    have h1 := State.tablesAround_setSlot ((s.slot k).restamp s.aging.periodNo) (State.tableLaw_tablesAround h hk)
    have hbs : s.boundSlot sh.thread = some k := by simp [State.boundSlot, hb, hfree]
    rw [hbs]
    dsimp only
    split
    · next hf => exact absurd hf hfree
    · exact State.judgeResting_tableLaw hs1 h1 he
    · next t p a hka =>
      obtain rfl : t = sh.thread := by simpa [hka, Slot.thread] using hk
      exact State.judgeAssembling_tableLaw hs1 h1 he (hslots k _ p a hka)
    · exact State.judgeSkipping_tableLaw hs1 h1

end Sys2Proof.Machine
end

section
/-! SUPPORT. Every command keeps the laws of the tables: requests, restarts and events (03 R53 to R59, 05 R86, 08, 09). -/

namespace Sys2Proof.Machine

/-! ### Cleared tables -/

/-- With every slot FREE, every thread unbound, no configuration pending and every active one in range, the laws of the
tables hold. -/
theorem State.tableLaw_of_cleared {s : State} (hs : ∀ k, s.slot k = .free)
    (ht : ∀ t, (s.thread t).binding = none ∧ (s.thread t).pending = none ∧ (s.thread t).active.inRange) : s.tableLaw := by
  refine ⟨fun t => ⟨(ht t).2.2, ?_⟩, fun t k => ?_, fun k t hk => ?_, fun t hp => ?_, fun k t p a hk => ?_⟩
  · simp [(ht t).2.1]
  · simp [hs k, (ht t).1, Slot.thread]
  · simp [hs k, Slot.thread] at hk
  · simp [(ht t).2.1] at hp
  · simp [hs k] at hk

theorem ThreadConfig.default_inRange : ThreadConfig.default.inRange := by
  simp [ThreadConfig.inRange, ThreadConfig.default]

theorem State.slot_replicate (s : State) (h : s.slots = Vector.replicate 96 .free) (k : SlotId) : s.slot k = .free := by
  simp [State.slot, h]

theorem State.thread_replicate (s : State) (h : s.threads = Vector.replicate 1024 ThreadEntry.default) (t : ThreadId) :
    s.thread t = ThreadEntry.default := by
  simp [State.thread, h]

/-- The tables with every slot FREE and every entry at its defaults (01 R1, 03 R50). -/
theorem State.tableLaw_of_defaults {s : State} (hs : s.slots = Vector.replicate 96 .free)
    (ht : s.threads = Vector.replicate 1024 ThreadEntry.default) : s.tableLaw :=
  State.tableLaw_of_cleared (s.slot_replicate hs) fun t => by
    rw [s.thread_replicate ht t]
    exact ⟨rfl, rfl, ThreadConfig.default_inRange⟩

/-! ### Releases -/

/-- The release of a slot (01 R24). -/
theorem State.releaseSlot_tableLaw {s : State} (h : s.tableLaw) (k : SlotId) : (s.releaseSlot k).tableLaw := by
  unfold State.releaseSlot
  split
  · exact h
  · next t p x hk =>
    have ha := State.tableLaw_tablesAround h (k := k) (t := t) (by simp [hk, Slot.thread])
    refine ha.tableLaw_freeSlot ?_
    by_contra hp
    obtain ⟨j, hj, hb⟩ := h.2.2.2.1 t (Option.isSome_iff_ne_none.mpr hp)
    obtain rfl : k = j := Option.some.inj (((h.2.1 t k).mpr (by simp [hk, Slot.thread])).symm.trans hj)
    simp [hk, Slot.busy] at hb
  · next t p g r hk =>
    exact (State.tableLaw_tablesAround h (by simp [hk, Slot.thread])).signalParcelEnd.frees (by simp)
  · next t p a hk =>
    refine State.tablesAround.frees (State.tablesAround.signalParcelEnd ?_) (by simp)
    exact State.tablesAround_congr (by simp) (by simp) (State.tableLaw_tablesAround h (by simp [hk, Slot.thread]))

theorem State.cutSkipThread_tableLaw {p : State × Nat} (h : p.1.tableLaw) (t : ThreadId) :
    (State.cutSkipThread p t).1.tableLaw := by
  unfold State.cutSkipThread
  split
  · exact h
  · next k _ =>
    split
    · exact h
    · exact h
    · exact h
    · next t' stamp a hk =>
      have hk' : (p.1.slot k).thread = some t' := by simp [hk, Slot.thread]
      exact (State.tableLaw_tablesAround h hk').tableLaw_poison (h.2.2.1 k t' hk').1 _ _ _ _

theorem State.cutReleaseThread_tableLaw {p : State × Nat × Nat} (h : p.1.tableLaw) (t : ThreadId) :
    (State.cutReleaseThread p t).1.tableLaw := by
  unfold State.cutReleaseThread
  split
  · exact h
  · next k _ =>
    have hr := State.releaseSlot_tableLaw h k
    dsimp only
    split
    · exact State.tableLaw_congr (by simp) (by simp) hr
    · exact hr

/-! ### Requests -/

theorem State.answer_tableLaw {s : State} (h : s.tableLaw) (r : Request) (st : Status) (c : ReplyResult) :
    (s.answer r st c).tableLaw := State.tableLaw_congr rfl rfl h

theorem State.decline_tableLaw {s : State} (h : s.tableLaw) (r : Request) (st : Status) : (s.decline r st).tableLaw :=
  State.answer_tableLaw h r st .empty

/-- An answer after an effect that leaves every slot and every thread. -/
theorem State.answer_tableLaw_of {s v : State} (h : s.tableLaw) (r : Request) (st : Status) (c : ReplyResult)
    (hs : v.slots = s.slots := by rfl) (ht : v.threads = s.threads := by rfl) : (v.answer r st c).tableLaw :=
  State.answer_tableLaw (State.tableLaw_congr hs ht h) r st c

theorem State.doWriteSetting_tableLaw {s : State} (h : s.tableLaw) (r : Request) : (s.doWriteSetting r).tableLaw := by
  have hquota : ∀ c v, (s.doWriteQuota r c v).tableLaw := fun c v => by
    unfold State.doWriteQuota; split <;> exact State.answer_tableLaw_of h _ _ _
  have hwarn : ∀ c v, (s.doWriteWarn r c v).tableLaw := fun c v => by
    unfold State.doWriteWarn; split <;> exact State.answer_tableLaw_of h _ _ _ (by simp) (by simp)
  have hstall : ∀ n v, (s.doWriteStall r n v).tableLaw := fun n v => State.answer_tableLaw_of h _ _ _
  have hdeclined : ∀ st, (s.decline r st).tableLaw := State.decline_tableLaw h r
  unfold State.doWriteSetting
  dsimp only
  split
  · exact hdeclined _
  · exact hdeclined _
  · unfold State.doWriteController; split <;> exact State.answer_tableLaw_of h _ _ _
  · unfold State.doWritePeriod; split <;> exact State.answer_tableLaw_of h _ _ _
  · unfold State.doWriteDrainLimit; split <;> exact State.answer_tableLaw_of h _ _ _
  · exact hquota _ _
  · exact hquota _ _
  · exact hquota _ _
  · exact hquota _ _
  · exact hwarn _ _
  · exact hwarn _ _
  · exact hwarn _ _
  · exact hwarn _ _
  · unfold State.doWriteHysteresis
    split
    · exact State.answer_tableLaw_of h _ _ _ (by simp [classIds]) (by simp [classIds])
    · exact hdeclined _
  · unfold State.doWriteNoticeMask; split <;> exact State.answer_tableLaw_of h _ _ _
  · exact hstall _ _
  · exact hstall _ _
  · exact hstall _ _
  · exact hstall _ _
  · exact hdeclined _
  · exact hdeclined _

theorem configOperands_inRange {r : Request} {c : ThreadConfig} (h : configOperands r = some c) : c.inRange := by
  unfold configOperands at h
  split at h
  · split at h
    · next hr =>
      cases h
      have := (r.octet 10).isLt
      exact ⟨hr.1, hr.2.1, hr.2.2.1, hr.2.2.2, by show (r.octet 10).toNat ≤ 255; omega⟩
    · cases h
  · cases h

/-- A write to the active configuration of a thread whose slot has no parcel in progress (03 R54). -/
theorem State.writeActive_tableLaw {s : State} (h : s.tableLaw) {t : ThreadId} {c : ThreadConfig} (hc : c.inRange)
    (hb : ∀ k, (s.slot k).thread = some t → (s.slot k).busy = false ∧ c.enabled = true ∧ c.retain = true) :
    (s.writeActive t c).tableLaw := by
  obtain ⟨hconf, hbind, hbound, hpend, hslots⟩ := h
  have hthread : ∀ x, (s.writeActive t c).thread x = if x = t then { s.thread t with active := c } else s.thread x :=
    fun x => State.thread_setThread s t x _
  have hslot : ∀ k, (s.writeActive t c).slot k = s.slot k := fun _ => rfl
  refine ⟨fun x => ?_, fun x k => ?_, fun k x hk => ?_, fun x hp => ?_, fun k x p a hk => ?_⟩
  · rw [hthread]
    by_cases hx : x = t
    · subst hx; simpa using ⟨hc, (hconf x).2⟩
    · simpa [hx] using hconf x
  · rw [hthread, hslot]
    by_cases hx : x = t
    · subst hx; simpa using hbind x k
    · simpa [hx] using hbind x k
  · rw [hslot] at hk ⊢
    rw [hthread]
    by_cases hx : x = t
    · subst hx
      obtain ⟨-, he, hr⟩ := hb k hk
      simp [he, hr]
    · simpa [hx] using hbound k x hk
  · rw [hthread] at hp ⊢
    simp only [hslot]
    by_cases hx : x = t
    · subst hx; simpa using hpend x (by simpa using hp)
    · simpa [hx] using hpend x (by simpa [hx] using hp)
  · rw [hslot] at hk
    rw [hthread]
    have hkt : (s.slot k).thread = some x := by rw [hk, Slot.thread]
    by_cases hx : x = t
    · subst hx
      have := (hb k hkt).1
      rw [hk] at this
      cases this
    · simpa [hx] using hslots k x p a hk

theorem State.writeThread_tableLaw {s : State} (h : s.tableLaw) (r : Request) (t : ThreadId) {c : ThreadConfig}
    (hc : c.inRange) : (s.writeThread r t c).tableLaw := by
  have hbind := h.2.1
  have hstored : ∀ k, (s.slot k).thread = some t → (s.slot k).busy = true → (s.storePending r t c).tableLaw := by
    intro k hk hb
    have ha := (State.tableLaw_tablesAround h hk).setThread (e := { s.thread t with pending := some c }) rfl
      (h.1 t).1 (fun d hd => by cases hd; exact hc)
    have hlaw := ha.tableLaw_setSlot (v := (s.setThread t { s.thread t with pending := some c }).slot k) ?_
    · rw [State.setSlot_slot] at hlaw
      exact State.decline_tableLaw hlaw _ _
    · rw [State.thread_setThread_self]
      exact ⟨hk, (h.2.2.1 k t hk).1, (h.2.2.1 k t hk).2, fun _ => hb, fun x p a hka => by
        rw [State.slot_setThread] at hka
        obtain rfl : x = t := by simpa [hka, Slot.thread] using hk
        exact h.2.2.2.2 k x p a hka⟩
  unfold State.writeThread
  cases hb : (s.thread t).binding with
  | none =>
    have hunbound : ∀ k, (s.slot k).thread = some t → False := fun k hk => by
      simpa [hb] using (hbind t k).mpr hk
    simpa [State.boundSlot, hb] using
      State.decline_tableLaw (State.writeActive_tableLaw h hc fun k hk => (hunbound k hk).elim) r .done
  | some k =>
    have hk : (s.slot k).thread = some t := (hbind t k).mp hb
    have honly : ∀ j, (s.slot j).thread = some t → j = k := fun j hj =>
      Option.some.inj (((hbind t j).mpr hj).symm.trans hb)
    have hfree : s.slot k ≠ .free := fun hf => by simp [hf, Slot.thread] at hk
    have hbs : s.boundSlot t = some k := by simp [State.boundSlot, hb, hfree]
    rw [hbs]
    dsimp only
    split
    · next hf => exact absurd hf hfree
    · next t' p x hkr =>
      obtain rfl : t' = t := by simpa [hkr, Slot.thread] using hk
      split
      · next her =>
        obtain ⟨he, hr⟩ := Bool.and_eq_true_iff.mp her
        refine State.decline_tableLaw (State.writeActive_tableLaw h hc fun j hj => ?_) _ _
        rw [honly j hj]
        exact ⟨by simp [hkr, Slot.busy], he, hr⟩
      · have ha : (s.writeActive t' c).tablesAround k t' :=
          (State.tableLaw_tablesAround h hk).setThread rfl hc (h.1 t').2
        refine State.decline_tableLaw (ha.tableLaw_freeSlot ?_) _ _
        simp only [State.writeActive, State.thread_setThread_self]
        by_contra hp
        obtain ⟨j, hj, hbusy⟩ := h.2.2.2.1 t' (Option.isSome_iff_ne_none.mpr hp)
        rw [honly j ((hbind t' j).mp hj)] at hbusy
        simp [hkr, Slot.busy] at hbusy
    · next hka => exact hstored k hk (by simp [hka, Slot.busy])
    · next hks => exact hstored k hk (by simp [hks, Slot.busy])

theorem State.doWriteThread_tableLaw {s : State} (h : s.tableLaw) (r : Request) : (s.doWriteThread r).tableLaw := by
  unfold State.doWriteThread
  split
  · next t c _ hc => exact State.writeThread_tableLaw h r t (configOperands_inRange hc)
  · exact State.decline_tableLaw h _ _

theorem State.doCut_tableLaw {s : State} (h : s.tableLaw) (r : Request) : (s.doCut r).tableLaw := by
  have hskip : ∀ (ts : List ThreadId) (p : State × Nat), p.1.tableLaw → (ts.foldl State.cutSkipThread p).1.tableLaw := by
    intro ts
    induction ts with
    | nil => exact fun _ hp => hp
    | cons t ts ih => exact fun p hp => ih _ (State.cutSkipThread_tableLaw hp t)
  have hrelease : ∀ (ts : List ThreadId) (p : State × Nat × Nat), p.1.tableLaw →
      (ts.foldl State.cutReleaseThread p).1.tableLaw := by
    intro ts
    induction ts with
    | nil => exact fun _ hp => hp
    | cons t ts ih => exact fun p hp => ih _ (State.cutReleaseThread_tableLaw hp t)
  unfold State.doCut
  split
  · next ts _ _ => exact State.answer_tableLaw_of (hskip ts (s, 0) h) _ _ _ (by simp) (by simp)
  · next ts _ _ => exact State.answer_tableLaw_of (hrelease ts (s, 0, 0) h) _ _ _ (by simp) (by simp)
  · exact State.decline_tableLaw h _ _

@[simp] theorem State.flushLane_slots (s : State) (n : LaneId) : (s.flushLane n).slots = s.slots := by
  have hf := (State.foldl_returnChain_frame (s.lane n).queue (s.setLane n (s.lane n).flush)).1
  unfold State.flushLane
  dsimp only
  split
  · simp [hf]
  · simp [hf]

@[simp] theorem State.flushLane_threads (s : State) (n : LaneId) : (s.flushLane n).threads = s.threads := by
  have hf := (State.foldl_returnChain_frame (s.lane n).queue (s.setLane n (s.lane n).flush)).2.1
  unfold State.flushLane
  dsimp only
  split
  · simp [hf]
  · simp [hf]

theorem State.doLane_tableLaw {s : State} (h : s.tableLaw) (r : Request) : (s.doLane r).tableLaw := by
  unfold State.doLane
  split
  · exact State.answer_tableLaw_of h _ _ _
  · exact State.answer_tableLaw_of h _ _ _
  · exact State.answer_tableLaw_of h _ _ _ (by simp) (by simp)
  · exact State.decline_tableLaw h _ _

theorem State.beginDrain_tableLaw {s : State} (h : s.tableLaw) (r : Request) : (s.beginDrain r).tableLaw := by
  unfold State.beginDrain
  split
  · exact State.answer_tableLaw h _ _ _
  · exact State.tableLaw_congr rfl rfl h

theorem State.judgeClose_tableLaw {s : State} (h : s.tableLaw) : s.judgeClose.tableLaw := by
  unfold State.judgeClose
  split
  · exact State.tableLaw_congr rfl rfl h
  · exact h

theorem State.doDrain_tableLaw {s : State} (h : s.tableLaw) (r : Request) : (s.doDrain r).tableLaw := by
  unfold State.doDrain
  split
  · exact State.decline_tableLaw h _ _
  · exact State.decline_tableLaw h _ _
  · exact State.beginDrain_tableLaw (State.judgeClose_tableLaw (State.tableLaw_congr (s := s) (by rfl) (by rfl) h)) _
  · exact State.beginDrain_tableLaw (State.judgeClose_tableLaw h) _
  · exact State.beginDrain_tableLaw h _

theorem State.doReadCounters_tableLaw {s : State} (h : s.tableLaw) (r : Request) : (s.doReadCounters r).tableLaw := by
  unfold State.doReadCounters
  dsimp only
  split
  · split <;> exact State.answer_tableLaw_of h _ _ _
  · split <;> exact State.answer_tableLaw_of h _ _ _
  · split
    · exact State.decline_tableLaw h _ _
    · split <;> exact State.answer_tableLaw_of h _ _ _
  · split <;> exact State.answer_tableLaw_of h _ _ _
  · exact State.decline_tableLaw h _ _

/-! ### Restarts (09 R146, R148) -/

@[simp] theorem State.restartLane_threads (s : State) (n : LaneId) : (s.restartLane n).threads = s.threads := by
  unfold State.restartLane
  dsimp only
  split <;> rfl

theorem State.foldl_restartLane_threads (ns : List LaneId) (s : State) :
    (ns.foldl State.restartLane s).threads = s.threads := by
  induction ns generalizing s with
  | nil => rfl
  | cons n ns ih => rw [List.foldl_cons, ih, State.restartLane_threads]

/-- RESTART TRAFFIC frees every slot and unbinds every thread, a pending configuration applied first (03 R59). -/
theorem State.restartTraffic_tableLaw {s : State} (h : s.tableLaw) : s.restartTraffic.tableLaw := by
  have hthread : ∀ t, s.restartTraffic.thread t = (s.thread t).restart := fun t => by
    simp [State.restartTraffic, State.restartSlots, State.thread, State.foldl_restartLane_threads]
  refine State.tableLaw_of_cleared (fun k => ?_) fun t => ?_
  · simp [State.restartTraffic, State.restartSlots, State.slot]
  · rw [hthread]
    refine ⟨rfl, by simp [ThreadEntry.restart], ?_⟩
    simp only [ThreadEntry.restart, ThreadEntry.endParcel_active]
    cases hp : (s.thread t).pending with
    | none => exact (h.1 t).1
    | some c => exact (h.1 t).2 c hp

/-- RESTART FULL gives every entry its defaults (03 R50, 09 R148). -/
theorem State.restartFull_tableLaw (s : State) : s.restartFull.tableLaw := by
  refine State.tableLaw_of_defaults ?_ ?_
  · simp [State.restartFull, State.restoreDefaults, State.restartSlotsFull]
  · simp [State.restartFull, State.restoreDefaults, State.restartSlotsFull]

theorem State.doRestart_tableLaw {s : State} (h : s.tableLaw) (r : Request) : (s.doRestart r).tableLaw := by
  unfold State.doRestart
  split
  · exact State.decline_tableLaw (State.restartTraffic_tableLaw h) _ _
  · exact State.decline_tableLaw s.restartFull_tableLaw _ _
  · exact State.decline_tableLaw h _ _

/-! ### The engine -/

/-- Every request that the engine carries out keeps the laws of the tables (08 R123). -/
theorem State.carryOut_tableLaw {s : State} (h : s.tableLaw) (r : Request) : (s.carryOut r).tableLaw := by
  unfold State.carryOut
  split
  · exact State.decline_tableLaw h _ _
  · unfold State.doReadSetting; split <;> exact State.answer_tableLaw h _ _ _
  · exact State.doWriteSetting_tableLaw h r
  · unfold State.doReadThread; split <;> exact State.answer_tableLaw h _ _ _
  · exact State.doWriteThread_tableLaw h r
  · unfold State.doReadSlot; split <;> exact State.answer_tableLaw h _ _ _
  · exact State.doCut_tableLaw h r
  · exact State.doLane_tableLaw h r
  · exact State.answer_tableLaw_of h _ _ _
  · exact State.doDrain_tableLaw h r
  · exact State.doReadCounters_tableLaw h r
  · exact State.doRestart_tableLaw h r

theorem State.takeHead_tableLaw {s : State} (h : s.tableLaw) : s.takeHead.tableLaw := by
  unfold State.takeHead
  split
  · exact h
  · exact State.carryOut_tableLaw (State.tableLaw_congr (s := s) (by rfl) (by rfl) h) _

theorem State.takeRequests_tableLaw (n : Nat) {s : State} (h : s.tableLaw) : (State.takeRequests n s).tableLaw := by
  induction n generalizing s with
  | zero => exact h
  | succ n ih =>
    unfold State.takeRequests
    split
    · exact ih (State.takeHead_tableLaw h)
    · exact h

theorem State.serve_tableLaw {s : State} (h : s.tableLaw) : s.serve.tableLaw := State.takeRequests_tableLaw _ h

theorem State.arrive_tableLaw {s : State} (h : s.tableLaw) (r : Request) : (s.arrive r).tableLaw := by
  unfold State.arrive
  split
  · exact State.serve_tableLaw (State.tableLaw_congr (s := s) (by rfl) (by rfl) h)
  · split
    · dsimp only
      split
      · exact State.serve_tableLaw (State.tableLaw_congr (s := s) (by rfl) (by rfl) h)
      · exact State.tableLaw_congr rfl rfl h
    · exact State.tableLaw_congr rfl rfl h

theorem State.requestArrives_tableLaw {s : State} (h : s.tableLaw) (r : Request) : (s.requestArrives r).tableLaw := by
  unfold State.requestArrives
  split
  · exact h
  · exact State.arrive_tableLaw h r

theorem State.endDrain_tableLaw {s : State} (h : s.tableLaw) (r : Request) (st : Status) :
    (s.endDrain r st).tableLaw :=
  State.serve_tableLaw (State.answer_tableLaw_of h _ _ _)

theorem State.drainReport_tableLaw {s : State} (h : s.tableLaw) : s.drainReport.tableLaw := by
  unfold State.drainReport
  split
  · exact h
  · split
    · exact State.endDrain_tableLaw h _ _
    · exact h

theorem State.laneReport_tableLaw {s : State} (h : s.tableLaw) (n : LaneId) : (s.laneReport n).tableLaw := by
  unfold State.laneReport
  split
  · exact State.drainReport_tableLaw h
  · exact h

/-! ### Events -/

/-- A shard keeps the laws of the tables: only a data shard of an enabled thread reaches the Slot Table (07 R117). -/
theorem State.takeOctets_tableLaw {s : State} (h : s.tableLaw) (octets : List Byte) : (s.takeOctets octets).tableLaw := by
  unfold State.takeOctets
  split
  · exact h
  · split
    · exact State.tableLaw_congr rfl rfl h
    · exact State.arrive_tableLaw h _
    · next sh hv =>
      have he : (s.thread sh.thread).active.enabled = true := by
        unfold State.judgeShard State.judgeData at hv
        dsimp only at hv
        split_ifs at hv with _ _ _ _ he
        cases hv
        exact he
      exact State.tableLaw_congr (by simp) (by simp) (State.takeShard_tableLaw h he)

theorem State.takeReport_tableLaw {s : State} (h : s.tableLaw) : s.takeReport.tableLaw := by
  unfold State.takeReport
  split
  · exact State.drainReport_tableLaw (State.tableLaw_congr (s := s) (by rfl) (by rfl) h)
  · exact h

theorem State.expireStall_tableLaw {s : State} (h : s.tableLaw) (n : LaneId) : (s.expireStall n).tableLaw := by
  unfold State.expireStall
  split
  · split
    · exact h
    · refine State.laneReport_tableLaw (State.tableLaw_congr (s := s) ?_ ?_ h) n
      · simp [State.stallDiscard]
      · simp [State.stallDiscard]
  · exact h

theorem State.oweScan_tableLaw {s : State} (h : s.tableLaw) : s.oweScan.tableLaw := by
  unfold State.oweScan
  split
  · exact State.tableLaw_congr rfl rfl h
  · split <;> exact State.tableLaw_congr rfl rfl h

theorem State.reapIfOld_tableLaw {s : State} (h : s.tableLaw) (k : SlotId) (t : ThreadId) (stamp : PeriodNo) :
    (s.reapIfOld k t stamp).tableLaw := by
  unfold State.reapIfOld State.reap
  split
  · exact State.tableLaw_congr (by simp) (by simp) (State.releaseSlot_tableLaw h k)
  · exact h

theorem State.visit_tableLaw {s : State} (h : s.tableLaw) (k : SlotId) : (s.visit k).tableLaw := by
  unfold State.visit
  split
  · exact h
  · exact h
  · exact State.reapIfOld_tableLaw h _ _ _
  · exact State.reapIfOld_tableLaw h _ _ _

theorem State.endReturnShard_tableLaw {s : State} (h : s.tableLaw) : s.endReturnShard.tableLaw := by
  have h1 : ({ s with ret := { s.ret with onLink := none } }.arbitrate).tableLaw := State.tableLaw_congr (s := s) rfl rfl h
  unfold State.endReturnShard
  dsimp only
  split
  · exact State.serve_tableLaw h1
  · exact h1
  · exact h1
  · exact h1

theorem State.takeGrant_tableLaw {s : State} (h : s.tableLaw) (n : LaneId) (g : Nat) : (s.takeGrant n g).tableLaw := by
  unfold State.takeGrant
  dsimp only
  split <;> exact State.tableLaw_congr rfl rfl h

/-- Every command keeps the laws of the tables. -/
theorem exec_tableLaw {i : Instr} {s t : State} (h : exec i s = .next t) (hs : s.tableLaw) : t.tableLaw := by
  have hrequest : ∀ r, exec i s = .next (s.requestArrives r) → t.tableLaw := fun r hr => by
    cases hr.symm.trans h
    exact State.requestArrives_tableLaw hs r
  cases i
  case resetnAssert =>
    cases h
    exact State.tableLaw_of_defaults rfl rfl
  case resetnRelease =>
    cases h
    split
    · exact State.tableLaw_congr rfl rfl hs
    · exact hs
  case endOfStartUp =>
    cases h
    split
    · refine State.tableLaw_congr (s := s) ?_ ?_ hs
      · simp [State.endStartUp]
      · simp [State.endStartUp]
    · exact hs
  case shardArrival v =>
    cases h
    exact State.takeOctets_tableLaw hs _
  case closeJudgement =>
    cases h
    split
    · exact hs
    · exact State.takeReport_tableLaw (State.tableLaw_congr (s := s) rfl rfl hs)
  case grant n w =>
    cases h
    split
    · exact hs
    · exact State.takeGrant_tableLaw hs _ _
  case emissionEnd n =>
    cases h
    split
    · exact hs
    · refine State.laneReport_tableLaw (State.tableLaw_congr (s := s) ?_ ?_ hs) n
      · simp [State.endEmission]
      · simp [State.endEmission]
  case stallExpiry n =>
    cases h
    exact State.expireStall_tableLaw hs n
  case periodExpiry =>
    cases h
    split
    · exact State.oweScan_tableLaw (State.tableLaw_congr (s := s) rfl rfl hs)
    · exact hs
  case scanVisit =>
    cases h
    split
    · exact hs
    · exact State.tableLaw_congr rfl rfl (State.visit_tableLaw hs _)
  case drainTimerExpiry =>
    cases h
    split
    · exact State.endDrain_tableLaw hs _ _
    · exact hs
  case returnShardEnd =>
    cases h
    split
    · exact State.endReturnShard_tableLaw hs
    · exact hs
  all_goals exact hrequest _ rfl

end Sys2Proof.Machine

open Sys2Proof Sys2Proof.Machine

/-- Settles O10: a command at the front of the queue keeps the laws (`exec_tableLaw`), and an idle step changes nothing. -/
theorem stepKeepsTableLaw : Obligations.StepKeepsTableLaw := by
  intro s t hstep hs
  unfold step at hstep
  split at hstep
  · cases hstep
    exact hs
  · exact exec_tableLaw hstep (State.tableLaw_congr rfl rfl hs)

end

section
/-! SUPPORT. The state after reset, table by table, and the laws it meets (01 R1, 03 R50, 04 R79, 06 R92, 09 R140). -/

namespace Sys2Proof.Machine

@[simp] theorem State.slot_reset (k : SlotId) : State.reset.slot k = .free := State.reset.slot_replicate rfl k

@[simp] theorem State.thread_reset (t : ThreadId) : State.reset.thread t = ThreadEntry.default :=
  State.reset.thread_replicate rfl t

@[simp] theorem State.cls_reset (c : ClassId) : State.reset.cls c = ClassAccount.default := by
  simp [State.cls, State.reset]

@[simp] theorem State.lane_reset (n : LaneId) : State.reset.lane n = Lane.default := by
  simp [State.lane, State.reset]

@[simp] theorem State.unitClass_reset (u : UnitNo) : State.reset.store.unitClass[u.val] = none := by
  simp [State.reset]

theorem State.busySlots_reset : State.reset.busySlots = 0 := by
  simp [State.busySlots, State.reset, Slot.busy]

/-- No place holds a unit after reset (04 R79). -/
theorem State.reset_storeEmpty : State.reset.storeEmpty := by
  refine ⟨rfl, ?_, ?_, State.unitClass_reset, fun c => by rw [State.cls_reset]; rfl⟩
  · simp [State.slotUnits, State.reset, Slot.units]
  · simp [State.laneUnits, State.reset, Lane.units, Lane.default]

theorem State.reset_modeLaw : State.reset.modeLaw :=
  ⟨fun _ => rfl, fun h => Bool.false_ne_true h.2, fun _ => State.busySlots_reset⟩

theorem State.reset_engineLaw : State.reset.engineLaw :=
  ⟨Nat.zero_le _, fun _ => ⟨rfl, rfl⟩, rfl, rfl, Nat.zero_le _, rfl⟩

theorem State.reset_returnLaw : State.reset.returnLaw :=
  ⟨fun _ => ⟨rfl, rfl, rfl⟩, nofun, Nat.zero_le _, Nat.zero_le _, Nat.zero_lt_succ _⟩

/-- The classes and the lanes after reset meet their laws (04 R69, R79, 06 R92, R108). -/
theorem State.reset_classLaws : State.reset.quotaLaw ∧ State.reset.congestionLaw := by
  refine ⟨fun c => ?_, fun c => ?_⟩
  · simp [ClassAccount.default]
  · simp [ClassAccount.default]

theorem State.reset_laneLaws : State.reset.laneLaw ∧ State.reset.laneShapes := by
  refine ⟨fun n => ?_, fun n => ?_⟩
  · simp [Lane.default]
  · simp [Lane.shape, Lane.default]

end Sys2Proof.Machine

open Sys2Proof Sys2Proof.Machine

/-- Settles O3, table by table. -/
theorem resetHoldsTheResetnValues : Obligations.ResetHoldsTheResetnValues := by
  have hstore : ∀ u : UnitNo, State.reset.store.unitClass[u.val] = none := State.unitClass_reset
  refine ⟨⟨rfl, rfl, rfl, rfl, State.slot_reset, State.thread_reset, ⟨rfl, hstore, rfl, State.cls_reset⟩, rfl,
    State.lane_reset, rfl, rfl, fun c => ?_, fun c => ?_, fun n c => ?_, fun c => ?_, rfl⟩, rfl, rfl⟩
  · simp [State.drops, State.reset, Counters.zero]
  · simp [State.parcels, State.reset, Counters.zero]
  · simp [State.laneCounter, State.reset, Counters.zero]
  · simp [State.device, State.reset, Counters.zero]

/-- Settles O4, law by law. -/
theorem resetMeetsEveryLaw : Obligations.ResetMeetsEveryLaw := by
  obtain ⟨hquota, hcongestion⟩ := State.reset_classLaws
  obtain ⟨hlane, hshapes⟩ := State.reset_laneLaws
  have hunit : State.reset.unitLaw := by
    unfold State.unitLaw
    rw [if_pos (show State.reset.mode = .starting from rfl)]
    exact State.reset_storeEmpty
  exact ⟨Memory.wf_nil, hquota, hcongestion, hunit, State.reset_modeLaw, State.tableLaw_of_defaults rfl rfl, hlane, hshapes,
    State.reset_engineLaw, State.reset_returnLaw⟩

end

section
/-! SUPPORT. READ_THREAD and READ_SLOT as a ready engine answers them (03 R62, 08 R127). -/

namespace Sys2Proof.Machine

/-- A field sent as two octets is read as it was. -/
theorem requestWith_field (num : BitVec 16) (code : Byte) (v : BitVec 16) :
    (requestWith num code (fieldOctets v)).field 3 = v := fieldOctets_join v

theorem requestWith_octet (num : BitVec 16) (code b : Byte) : (requestWith num code [b]).octet 3 = b := rfl

theorem threadOperand_ofNat (x : ThreadId) : threadOperand (BitVec.ofNat 16 x.val) = some x := by
  have hx : (BitVec.ofNat 16 x.val).toNat = x.val := by
    rw [BitVec.toNat_ofNat]; omega
  simp [threadOperand, hx]

theorem threadOperand_none (v : BitVec 16) (h : 1024 ≤ v.toNat) : threadOperand v = none := by
  simp [threadOperand, Nat.not_lt.mpr h]

/-- The slot state a READ_THREAD shows of an unbound thread is FREE (03 R62). -/
theorem State.threadSlotState_unbound (s : State) (x : ThreadId) (h : (s.thread x).binding = none) :
    s.threadSlotState x = .free := by
  simp [State.threadSlotState, State.boundSlot, h]

/-- The slot state a READ_THREAD shows of a bound thread is its slot's (03 R62). -/
theorem State.threadSlotState_bound (s : State) (x : ThreadId) (k : SlotId) (h : (s.thread x).binding = some k) :
    s.threadSlotState x = (s.slot k).state := by
  by_cases hf : s.slot k = .free
  · simp [State.threadSlotState, State.boundSlot, h, hf, Slot.state]
  · simp [State.threadSlotState, State.boundSlot, h, hf]

/-- A ready engine answers READ_THREAD of a thread with its entry and the slot state (03 R62). -/
theorem exec_readThread_done (s : State) (num v : BitVec 16) (t : ThreadId) (h : s.ready)
    (hv : threadOperand v = some t) :
    exec (.readThread num v) s = .next (s.queueReply ⟨num, 0x03, .done,
      .thread (s.thread t).active (s.thread t).pending (s.thread t).binding (s.threadSlotState t)⟩) := by
  show Host.Outcome.next (s.requestArrives (requestWith num 0x03 (fieldOctets v))) = _
  rw [State.requestArrives_ready s _ h]
  show Host.Outcome.next (State.doReadThread _ (requestWith num 0x03 (fieldOctets v))) = _
  unfold State.doReadThread
  rw [requestWith_field, hv]
  exact congrArg _ (State.answer_ready s s _ _ _ h rfl)

/-- A ready engine answers READ_THREAD of no thread with RANGE (03 R62). -/
theorem exec_readThread_range (s : State) (num v : BitVec 16) (h : s.ready) (hv : threadOperand v = none) :
    exec (.readThread num v) s = .next (s.queueReply ⟨num, 0x03, .range, .empty⟩) := by
  show Host.Outcome.next (s.requestArrives (requestWith num 0x03 (fieldOctets v))) = _
  rw [State.requestArrives_ready s _ h]
  show Host.Outcome.next (State.doReadThread _ (requestWith num 0x03 (fieldOctets v))) = _
  unfold State.doReadThread
  rw [requestWith_field, hv]
  exact congrArg _ (State.answer_ready s s _ _ _ h rfl)

/-- What a ready engine answers to READ_SLOT (08 R127). -/
theorem exec_readSlot_ready (s : State) (num : BitVec 16) (b : Byte) (h : s.ready) :
    exec (.readSlot num b) s = .next (if hb : b.toNat < 96 then
      s.queueReply ⟨num, 0x05, .done, .slot (s.slot ⟨b.toNat, hb⟩).view⟩
      else s.queueReply ⟨num, 0x05, .range, .empty⟩) := by
  show Host.Outcome.next (s.requestArrives (requestWith num 0x05 [b])) = _
  rw [State.requestArrives_ready s _ h]
  show Host.Outcome.next (State.doReadSlot _ (requestWith num 0x05 [b])) = _
  unfold State.doReadSlot
  rw [requestWith_octet]
  by_cases hb : b.toNat < 96
  · rw [dif_pos hb, dif_pos hb]
    exact congrArg _ (State.answer_ready s s _ _ _ h rfl)
  · rw [dif_neg hb, dif_neg hb]
    exact congrArg _ (State.answer_ready s s _ _ _ h rfl)

end Sys2Proof.Machine

open Sys2Proof Sys2Proof.Machine

/-- Settles O52, from the two answers by their operands. -/
theorem readThreadAndSlotAnswerSnapshots : Obligations.ReadThreadAndSlotAnswerSnapshots := by
  intro s num h
  refine ⟨fun x => ?_, fun v hv => ?_, fun k => ?_, fun b hb => ?_⟩
  · rw [exec_readThread_done s num _ x h (threadOperand_ofNat x)]
    cases hb : (s.thread x).binding with
    | none => rw [State.threadSlotState_unbound s x hb]
    | some k => rw [State.threadSlotState_bound s x k hb]
  · exact exec_readThread_range s num v h (threadOperand_none v hv)
  · have hk : (BitVec.ofNat 8 k.val).toNat < 96 ∧ ∀ h, (⟨(BitVec.ofNat 8 k.val).toNat, h⟩ : SlotId) = k := by
      have hmod : (BitVec.ofNat 8 k.val).toNat = k.val := by
        rw [BitVec.toNat_ofNat]; omega
      exact ⟨by omega, fun _ => Fin.ext hmod⟩
    have hview : exec (.readSlot num (BitVec.ofNat 8 k.val)) s =
        .next (s.queueReply ⟨num, 0x05, .done, .slot (s.slot k).view⟩) := by
      rw [exec_readSlot_ready s num _ h, dif_pos hk.1, hk.2]
    refine ⟨fun hs => ?_, fun x p a hs => ?_, fun x p g r hs => ?_, fun x p e hs => ?_⟩ <;>
      · rw [hview, hs]; rfl
  · rw [exec_readSlot_ready s num b h, dif_neg (Nat.not_lt.mpr hb)]

end

section
/-! SUPPORT. The Ingress Gate on a data shard: its fields where 11 11.1 places them, and the mode gate (07 R111 to R117). -/

namespace Sys2Proof.Machine

theorem octetAt_toList (v : Vector Byte 64) (i : Nat) (h : i < 64) : octetAt v.toList i = v[i] := by
  simp [octetAt, List.getD_eq_getElem?_getD, h]

/-- The header read of a shard's octets has its fields where 11 11.1 places them. -/
theorem shardHeader_toList (v : Vector Byte 64) : shardHeader v.toList =
    { kind := kindBits v, source := Fin.ofNat 64 (v[0].extractLsb' 0 6).toNat,
      stream := Fin.ofNat 16 (v[1].extractLsb' 4 4).toNat, first := v[1].getLsbD 3, last := v[1].getLsbD 2,
      mustBeZero := v[1].extractLsb' 0 2, seq := v[2], fill := v[3], tag := v[4] ++ v[5], check := v[6] ++ v[7] } := by
  simp [shardHeader, octetAt_toList, fieldAt, kindBits]

/-- The data shard the gate hands on has the fields of 11 11.1. -/
theorem dataShard_eq_shardFields (v : Vector Byte 64) : dataShard (shardHeader v.toList) v.toList = shardFields v := by
  rw [shardHeader_toList]
  have hthread : threadOf (Fin.ofNat 64 (v[0].extractLsb' 0 6).toNat) (Fin.ofNat 16 (v[1].extractLsb' 4 4).toNat) =
      Fin.ofNat 1024 (sourceNumber v * 16 + v[1].toNat / 16) := by
    apply Fin.ext
    have h0 := v[0].isLt
    have h1 := v[1].isLt
    simp only [threadOf, Fin.ofNat, BitVec.extractLsb'_toNat, sourceNumber, Nat.shiftRight_eq_div_pow]
    omega
  simp only [dataShard, shardFields, hthread]

/-- A sound header passes the checks of 07 R111. -/
theorem headerSound.passes {v : Vector Byte 64} (h : headerSound v) :
    headerCheck (v.toList.take 6) = (shardHeader v.toList).check ∧ (shardHeader v.toList).mustBeZero = 0 := by
  obtain ⟨hc, h0, h1⟩ := h
  rw [shardHeader_toList]
  refine ⟨hc, ?_⟩
  apply BitVec.eq_of_getLsbD_eq
  intro i hi
  have hcase : i = 0 ∨ i = 1 := by omega
  rcases hcase with rfl | rfl
  · simpa using h0
  · simpa using h1

/-- A data shard with a sound header, outside STARTING: judged by the mode gate and the enabled check (07 R112 to R117). -/
theorem exec_dataShard (s : State) (v : Vector Byte 64) (hm : s.mode ≠ .starting) (h : headerSound v)
    (hk : kindBits v = 0b01#2) : exec (.shardArrival v) s = .next (
      if s.modePasses (shardFields v) then
        if (s.thread (shardFields v).thread).active.enabled then (s.takeShard (shardFields v)).settleReturns
        else s.bumpDrop .disabled
      else s.bumpDrop .notRunning) := by
  obtain ⟨hc, hz⟩ := h.passes
  have hkind : (shardHeader v.toList).kind = 0b01#2 := by rw [shardHeader_toList]; exact hk
  have hv : s.judgeShard v.toList = s.judgeData (shardFields v) := by
    unfold State.judgeShard
    simp only [hc, hz, hkind, ne_eq, not_true_eq_false, if_false, if_true, dataShard_eq_shardFields]
  show Host.Outcome.next (s.takeOctets v.toList) = _
  unfold State.takeOctets
  rw [if_neg hm, hv, State.judgeData]
  by_cases hp : s.modePasses (shardFields v) = true
  · by_cases he : (s.thread (shardFields v).thread).active.enabled = true
    · simp [hp, he]
    · simp [hp, he]
  · simp [hp]

end Sys2Proof.Machine

open Sys2Proof Sys2Proof.Machine

/-- Settles O21, from the gate's judgement by the mode. -/
theorem modeGateOfDataShards : Obligations.ModeGateOfDataShards := by
  intro s v h hk
  refine ⟨fun hm => ?_, fun hm he => ?_, fun hm he => ?_⟩
  · rcases hm with hm | hm <;> rw [exec_dataShard s v (by rw [hm]; decide) h hk] <;> simp [State.modePasses, hm]
  · rw [exec_dataShard s v (by rw [hm]; decide) h hk]
    simp [State.modePasses, hm, he]
  · rw [exec_dataShard s v (by rw [hm]; decide) h hk]
    simp [State.modePasses, hm, he]

end

section
/-! SUPPORT. The Slot Table takes a shard: the rows of its judgements, each an equation, and what a claim and a poison write (01 R4 to R11, 02 R42, 04 R68). -/

namespace Sys2Proof.Machine

/-! ### What a claim writes (04 R64 to R68) -/

@[simp] theorem State.takeUnit_freeList (s : State) (c : ClassId) (p : List Byte) (u : UnitNo) (r : List UnitNo) :
    (s.takeUnit c p u r).store.freeList = r := rfl

@[simp] theorem State.takeUnit_octets (s : State) (c : ClassId) (p : List Byte) (u : UnitNo) (r : List UnitNo) :
    (s.takeUnit c p u r).store.octets = Memory.writeAll s.store.octets (unitAddress u) p := rfl

@[simp] theorem State.takeUnit_unitClass_self (s : State) (c : ClassId) (p : List Byte) (u : UnitNo) (r : List UnitNo) :
    (s.takeUnit c p u r).store.unitClass[u.val] = some c := by
  simp [State.takeUnit]

@[simp] theorem State.takeUnit_usage_self (s : State) (c : ClassId) (p : List Byte) (u : UnitNo) (r : List UnitNo) :
    ((s.takeUnit c p u r).cls c).usage = (s.cls c).usage + 1 := by
  simp [State.takeUnit]
  rfl

/-- The judgement of R72 leaves every usage. -/
@[simp] theorem State.judgeRise_usage (s : State) (c d : ClassId) : ((s.judgeRise c).cls d).usage = (s.cls d).usage := by
  unfold State.judgeRise
  split
  · by_cases h : d = c
    · subst h; simp [State.changeCongestion]
    · simp [State.changeCongestion, State.cls_setCls_ne _ _ _ _ h]
  · rfl

theorem State.unitOctets_of_octets (s z : State) (v : UnitNo) (h : z.store.octets = s.store.octets) :
    z.unitOctets v = s.unitOctets v := by
  simp only [State.unitOctets, h]

/-- The unit written reads back as the payload (04 R64). -/
theorem State.unitOctets_written {s z : State} {u : UnitNo} {p : List Byte} (hm : s.memoryLaw) (hp : p.length = 56)
    (h : z.store.octets = Memory.writeAll s.store.octets (unitAddress u) p) : z.unitOctets u = p := by
  have hw := Memory.readAll_writeAll_self s.store.octets (unitAddress u) p hm
  rw [hp] at hw
  rw [State.unitOctets, h]
  exact hw

/-- An address outside the unit written reads as before (04 R64). -/
theorem State.read_outside {s z : State} {u : UnitNo} {p : List Byte} (hm : s.memoryLaw) (hp : p.length = 56)
    (h : z.store.octets = Memory.writeAll s.store.octets (unitAddress u) p) {a : Nat}
    (ha : a < unitAddress u ∨ unitAddress u + 56 ≤ a) : Memory.read z.store.octets a = Memory.read s.store.octets a := by
  rw [h, Memory.read_writeAll p _ _ _ hm, if_neg (by omega)]

/-- Another unit reads as before (04 R64). -/
theorem State.unitOctets_other {s z : State} {u v : UnitNo} {p : List Byte} (hm : s.memoryLaw) (hp : p.length = 56)
    (h : z.store.octets = Memory.writeAll s.store.octets (unitAddress u) p) (hv : v ≠ u) :
    z.unitOctets v = s.unitOctets v := by
  refine Memory.readAll_congr _ _ _ _ fun a h1 h2 => State.read_outside hm hp h ?_
  have hne : v.val ≠ u.val := fun e => hv (Fin.ext e)
  simp only [unitAddress, unitSize] at *
  omega

/-! ### What a poison writes (02 R42) -/

@[simp] theorem State.returnChain_nil (s : State) : s.returnChain [] = s := by
  simp [State.returnChain]

@[simp] theorem State.poison_freeList (s : State) (k : SlotId) (t : ThreadId) (stamp : PeriodNo) (held : List UnitNo)
    (g : Option Tag) (r : PoisonReason) : (s.poison k t stamp held g r).store.freeList = s.store.freeList ++ held := by
  simp [State.poison]

@[simp] theorem State.poison_store_nil (s : State) (k : SlotId) (t : ThreadId) (stamp : PeriodNo) (g : Option Tag)
    (r : PoisonReason) : (s.poison k t stamp [] g r).store = s.store := by
  simp [State.poison]

@[simp] theorem State.parcels_poison_self (s : State) (k : SlotId) (t : ThreadId) (stamp : PeriodNo) (held : List UnitNo)
    (g : Option Tag) (r : PoisonReason) : (s.poison k t stamp held g r).parcels r.counter = s.parcels r.counter + 1 := by
  simp [State.poison]

@[simp] theorem State.drops_poison (s : State) (k : SlotId) (t : ThreadId) (stamp : PeriodNo) (held : List UnitNo)
    (g : Option Tag) (r : PoisonReason) (c : DropCounter) : (s.poison k t stamp held g r).drops c = s.drops c := by
  simp [State.poison]

/-! ### Which judgement a shard meets (01 R4, R8) -/

theorem State.takeShard_unbound (s : State) (sh : DataShard) (h : (s.thread sh.thread).binding = none) :
    s.takeShard sh = s.takeUnbound sh := by
  simp [State.takeShard, State.boundSlot, h]

theorem State.takeShard_resting (s : State) (sh : DataShard) (k : SlotId) (t : ThreadId) (p : PeriodNo) (x : Seq)
    (h : (s.thread sh.thread).binding = some k) (hk : s.slot k = .resting t p x) :
    s.takeShard sh = (s.setSlot k (.resting t s.aging.periodNo x)).judgeResting k x sh := by
  simp [State.takeShard, State.boundSlot, h, hk, Slot.restamp]

theorem State.takeShard_assembling (s : State) (sh : DataShard) (k : SlotId) (t : ThreadId) (p : PeriodNo) (a : Assembly)
    (h : (s.thread sh.thread).binding = some k) (hk : s.slot k = .assembling t p a) :
    s.takeShard sh = (s.setSlot k (.assembling t s.aging.periodNo a)).judgeAssembling k a sh := by
  simp [State.takeShard, State.boundSlot, h, hk, Slot.restamp]

/-! ### Placement of a shard without L (01 R14, 02 R27 to R29) -/

/-- The parcel with a shard without L appended: all 56 octets of its unit into the running check (01 R14, 02 R33). -/
theorem State.placePassed_more (s : State) (k : SlotId) (t : ThreadId) (stamp : PeriodNo) (a : Assembly) (e : EarlyEntry)
    (h : e.last = false) : s.placePassed k t stamp a e = .more { a with
      placed := a.placed ++ [e.unit], check := parcelCheckUpdate a.check (s.unitOctets e.unit),
      expected := a.expected + 1 } s := by
  simp [State.placePassed, State.appendShard, State.checkedOctets, h]

theorem State.placeShard_start (s : State) (k : SlotId) (t : ThreadId) (stamp : PeriodNo) (a : Assembly) (e : EarlyEntry)
    (h : e.seq = a.parcelStart) (hf : e.first = true) :
    s.placeShard k t stamp a e = s.placePassed k t stamp { a with parcelTag := some e.tag } e := by
  simp [State.placeShard, h, hf]

theorem State.placeShard_framing (s : State) (k : SlotId) (t : ThreadId) (stamp : PeriodNo) (a : Assembly)
    (e : EarlyEntry) (h : e.seq = a.parcelStart) (hf : e.first = false) : s.placeShard k t stamp a e =
      .over (s.poison k t stamp (a.units ++ [e.unit]) (skipTagOf a.parcelTag e.tag) .framing) := by
  simp [State.placeShard, h, hf]

theorem State.placeShard_restart (s : State) (k : SlotId) (t : ThreadId) (stamp : PeriodNo) (a : Assembly)
    (e : EarlyEntry) (h : e.seq ≠ a.parcelStart) (hf : e.first = true) : s.placeShard k t stamp a e =
      (s.restartParcel t a e (position e.seq a.parcelStart)).2.placePassed k t stamp
        { (s.restartParcel t a e (position e.seq a.parcelStart)).1 with parcelTag := some e.tag } e := by
  simp [State.placeShard, h, hf]

theorem State.placeShard_joins (s : State) (k : SlotId) (t : ThreadId) (stamp : PeriodNo) (a : Assembly) (e : EarlyEntry)
    (h : e.seq ≠ a.parcelStart) (hf : e.first = false) (hg : a.parcelTag = some e.tag) :
    s.placeShard k t stamp a e = s.placePassed k t stamp a e := by
  simp [State.placeShard, h, hf, hg]

theorem State.placeShard_tag (s : State) (k : SlotId) (t : ThreadId) (stamp : PeriodNo) (a : Assembly) (e : EarlyEntry)
    (h : e.seq ≠ a.parcelStart) (hf : e.first = false) (hg : a.parcelTag ≠ some e.tag) : s.placeShard k t stamp a e =
      .over (s.poison k t stamp (a.units ++ [e.unit]) (skipTagOf a.parcelTag e.tag) .tag) := by
  simp [State.placeShard, h, hf, hg]

/-! ### The drain (01 R17) -/

/-- The drain of a parcel's whole early list, as every placement at arrival begins it. -/
def State.drain (s : State) (k : SlotId) (t : ThreadId) (stamp : PeriodNo) (a : Assembly) : State :=
  State.drainEarly k t stamp a.early.length a s

/-- A parcel's end is over, or goes on with every entry held in the next parcel (02 R40). -/
theorem State.finishParcel_more_early {s z : State} {k : SlotId} {t : ThreadId} {stamp : PeriodNo} {x : Seq}
    {held : List EarlyEntry} {b : Assembly} (h : s.finishParcel k t stamp x held = .more b z) : b.early = held := by
  unfold State.finishParcel at h
  cases hp : (s.thread t).pending with
  | some c =>
    simp only [hp, Option.isSome_some, if_true] at h
    split at h <;> cases h
  | none =>
    simp only [hp, Option.isSome_none, Bool.false_eq_true, if_false] at h
    split at h
    · split at h
      · cases h
      · split at h
        · cases h
        · unfold State.nextParcel at h
          split at h
          · cases h; rfl
          · cases h
    · cases h

theorem State.placePassed_more_early {s z : State} {k : SlotId} {t : ThreadId} {stamp : PeriodNo} {a b : Assembly}
    {e : EarlyEntry} (h : s.placePassed k t stamp a e = .more b z) : b.early = a.early := by
  unfold State.placePassed at h
  dsimp only at h
  split at h
  · exact State.finishParcel_more_early h
  · cases h; rfl

theorem State.restartParcel_parcel (s : State) (t : ThreadId) (a : Assembly) (e : EarlyEntry) (p : Nat) :
    (s.restartParcel t a e p).1 =
      { Assembly.begin_ e.seq with early := a.early, lastHeld := a.lastHeld.map (fun h => h - p) } := rfl

/-- A placement leaves the entries held as they are, where the judgement goes on. -/
theorem State.placeShard_more_early {s z : State} {k : SlotId} {t : ThreadId} {stamp : PeriodNo} {a b : Assembly}
    {e : EarlyEntry} (h : s.placeShard k t stamp a e = .more b z) : b.early = a.early := by
  by_cases hs : e.seq = a.parcelStart
  · cases hf : e.first with
    | true =>
      rw [State.placeShard_start s k t stamp a e hs hf] at h
      have hb := State.placePassed_more_early h
      exact hb
    | false => rw [State.placeShard_framing s k t stamp a e hs hf] at h; cases h
  · cases hf : e.first with
    | true =>
      rw [State.placeShard_restart s k t stamp a e hs hf, State.restartParcel_parcel] at h
      have hb := State.placePassed_more_early h
      exact hb
    | false =>
      by_cases hg : a.parcelTag = some e.tag
      · rw [State.placeShard_joins s k t stamp a e hs hf hg] at h; exact State.placePassed_more_early h
      · rw [State.placeShard_tag s k t stamp a e hs hf hg] at h; cases h

/-- With no entry due the drain ends (01 R17). -/
theorem State.drain_stops (s : State) (k : SlotId) (t : ThreadId) (stamp : PeriodNo) (a : Assembly)
    (h : notDue a.expected a.early) : s.drain k t stamp a = s.setSlot k (.assembling t stamp a) := by
  unfold State.drain
  cases hea : a.early with
  | nil => rfl
  | cons e rest =>
    rw [hea, notDue_cons] at h
    simp [State.drainEarly, hea, h]

/-- A due entry whose placement is over ends the drain with it. -/
theorem State.drain_over (s : State) (k : SlotId) (t : ThreadId) (stamp : PeriodNo) (a : Assembly) {e : EarlyEntry}
    {rest : List EarlyEntry} (hea : a.early = e :: rest) (hd : e.seq = a.expected) {z : State}
    (h : s.placeShard k t stamp { a with early := rest } e = .over z) : s.drain k t stamp a = z := by
  simp [State.drain, State.drainEarly, hea, hd, h]

/-- A due entry placed lets the drain go on (01 R17). -/
theorem State.drain_more (s : State) (k : SlotId) (t : ThreadId) (stamp : PeriodNo) (a : Assembly) {e : EarlyEntry}
    {rest : List EarlyEntry} (hea : a.early = e :: rest) (hd : e.seq = a.expected) {b : Assembly} {z : State}
    (h : s.placeShard k t stamp { a with early := rest } e = .more b z) : s.drain k t stamp a = z.drain k t stamp b := by
  have hb : b.early = rest := State.placeShard_more_early h
  simp [State.drain, State.drainEarly, hea, hd, h, hb]

theorem State.placeAndDrain_over (s : State) (k : SlotId) (t : ThreadId) (stamp : PeriodNo) (a : Assembly)
    (e : EarlyEntry) {z : State} (h : s.placeShard k t stamp a e = .over z) : s.placeAndDrain k t stamp a e = z := by
  simp [State.placeAndDrain, h]

theorem State.placeAndDrain_more (s : State) (k : SlotId) (t : ThreadId) (stamp : PeriodNo) (a : Assembly)
    (e : EarlyEntry) {b : Assembly} {z : State} (h : s.placeShard k t stamp a e = .more b z) :
    s.placeAndDrain k t stamp a e = z.drain k t stamp b := by
  simp [State.placeAndDrain, State.drain, h]

/-! ### A parcel started at an F shard (01 R5, R22) -/

theorem State.startParcel_failed (s : State) (k : SlotId) (sh : DataShard) (r : PoisonReason)
    (h : s.claim (s.thread sh.thread).active.cls sh.payload = .failed r) :
    s.startParcel k sh = s.poison k sh.thread s.aging.periodNo [] (some sh.tag) r := by
  simp [State.startParcel, h]

/-- An F shard without L, its unit claimed, is placed at position 0 of the parcel it starts (01 R5, 02 R27). -/
theorem State.startParcel_taken (s z : State) (k : SlotId) (sh : DataShard) (u : UnitNo)
    (h : s.claim (s.thread sh.thread).active.cls sh.payload = .taken u z) (hf : sh.first = true)
    (hl : sh.last = false) : s.startParcel k sh = z.setSlot k (.assembling sh.thread s.aging.periodNo
      { expected := sh.seq + 1, parcelStart := sh.seq, parcelTag := some sh.tag, placed := [u],
        check := parcelCheckUpdate 0xFFFFFFFF#32 (z.unitOctets u), early := [], lastHeld := none }) := by
  have hp : z.placeShard k sh.thread s.aging.periodNo (Assembly.begin_ sh.seq) (sh.entry u) = .more
      { expected := sh.seq + 1, parcelStart := sh.seq, parcelTag := some sh.tag, placed := [u],
        check := parcelCheckUpdate 0xFFFFFFFF#32 (z.unitOctets u), early := [], lastHeld := none } z := by
    rw [State.placeShard_start z k _ _ _ _ rfl hf]
    exact State.placePassed_more z k _ _ _ _ hl
  simp only [State.startParcel, h, hl, Bool.false_and, Bool.false_eq_true, if_false]
  rw [State.placeAndDrain_more z k _ _ _ _ hp]
  exact State.drain_stops z k _ _ _ (notDue_nil _)

/-! ### The slot an F shard of an unbound thread is bound to (01 R5, R6) -/

/-- The slot numbers up to a slot, and behind it. -/
theorem slotIds_split (k : SlotId) : ∃ below above, slotIds = below ++ k :: above ∧ (∀ j ∈ below, j < k) := by
  obtain ⟨below, above, h⟩ := List.append_of_mem (List.mem_finRange k)
  have hp : (below ++ k :: above).Pairwise (· < ·) := h ▸ List.pairwise_lt_finRange 96
  exact ⟨below, above, h, fun j hj => (List.pairwise_append.mp hp).2.2 j hj k (by simp)⟩

theorem State.lowestFree_eq (s : State) (k : SlotId) (hk : s.slot k = .free) (h : ∀ j, j < k → s.slot j ≠ .free) :
    s.lowestFree = some k := by
  obtain ⟨below, above, hs, hb⟩ := slotIds_split k
  have hnone : below.find? (fun j => s.slot j == .free) = none := by
    simpa [List.find?_eq_none] using fun j hj => h j (hb j hj)
  rw [State.lowestFree, hs, List.find?_append, hnone]
  simp [hk]

theorem State.lowestFree_none (s : State) (h : ∀ j, s.slot j ≠ .free) : s.lowestFree = none := by
  simpa [State.lowestFree, List.find?_eq_none] using fun j _ => h j

theorem State.restingAge_resting (s : State) (k : SlotId) (t : ThreadId) (p : PeriodNo) (x : Seq)
    (h : s.slot k = .resting t p x) : s.restingAge k = some (s.aging.periodNo - p).toNat := by
  simp [State.restingAge, h]

/-- Slots younger than an age leave the weighing below it. -/
theorem State.foldl_olderResting_below (s : State) (n : Nat) (js : List SlotId)
    (hj : ∀ j ∈ js, ∀ m, s.restingAge j = some m → m < n) (best : Option (SlotId × Nat))
    (hb : ∀ b, best = some b → b.2 < n) (b : SlotId × Nat) (h : js.foldl s.olderResting best = some b) : b.2 < n := by
  induction js generalizing best with
  | nil => exact hb b h
  | cons j js ih =>
    refine ih (fun i hi => hj i (by simp [hi])) (s.olderResting best j) (fun c hc => ?_) h
    have hage := hj j (by simp)
    unfold State.olderResting at hc
    split at hc
    · exact hb c hc
    · next m hm =>
      split at hc
      · cases hc; exact hage m hm
      · split at hc
        · cases hc; exact hage m hm
        · cases hc; exact hb _ rfl

/-- Slots no older than the oldest so far leave it in place: of equals the lower number stays (01 R6). -/
theorem State.foldl_olderResting_stays (s : State) (k : SlotId) (n : Nat) (js : List SlotId)
    (hj : ∀ j ∈ js, ∀ m, s.restingAge j = some m → m ≤ n) : js.foldl s.olderResting (some (k, n)) = some (k, n) := by
  induction js with
  | nil => rfl
  | cons j js ih =>
    have hstep : s.olderResting (some (k, n)) j = some (k, n) := by
      unfold State.olderResting
      split
      · rfl
      · next m hm => simp [hj j (by simp) m hm]
    rw [List.foldl_cons, hstep]
    exact ih fun i hi => hj i (by simp [hi])

/-- A slot older than every one before it replaces the oldest so far (01 R6). -/
theorem State.olderResting_replaces (s : State) (k : SlotId) (n : Nat) (best : Option (SlotId × Nat))
    (hk : s.restingAge k = some n) (hb : ∀ b, best = some b → b.2 < n) : s.olderResting best k = some (k, n) := by
  cases best with
  | none => simp [State.olderResting, hk]
  | some b => simp [State.olderResting, hk, hb b rfl]

/-- The slot of greatest age, the lowest-numbered of equals, is the one evicted (01 R6). -/
theorem State.oldestResting_eq (s : State) (k : SlotId) (n : Nat) (hk : s.restingAge k = some n)
    (h : ∀ j m, s.restingAge j = some m → m ≤ n ∧ (m = n → k ≤ j)) : s.oldestResting = some k := by
  obtain ⟨below, above, hs, hb⟩ := slotIds_split k
  have hbelow : ∀ j ∈ below, ∀ m, s.restingAge j = some m → m < n := fun j hj m hm => by
    obtain ⟨hle, heq⟩ := h j m hm
    exact lt_of_le_of_ne hle fun e => absurd (heq e) (Fin.not_le.mpr (hb j hj))
  unfold State.oldestResting
  rw [hs, List.foldl_append, List.foldl_cons,
    s.olderResting_replaces k n _ hk (s.foldl_olderResting_below n below hbelow none nofun),
    s.foldl_olderResting_stays k n above fun j _ m hm => (h j m hm).1]
  rfl

theorem State.oldestResting_none (s : State) (h : ∀ j, s.restingAge j = none) : s.oldestResting = none := by
  have hn : ∀ js : List SlotId, js.foldl s.olderResting none = none := by
    intro js
    induction js with
    | nil => rfl
    | cons j js ih =>
      rw [List.foldl_cons, show s.olderResting none j = none by simp [State.olderResting, h j]]
      exact ih
  simp [State.oldestResting, hn]

theorem State.takeUnbound_free (s : State) (sh : DataShard) (k : SlotId) (hf : sh.first = true)
    (hk : s.lowestFree = some k) : s.takeUnbound sh = s.bindSlot k sh := by
  simp [State.takeUnbound, hf, hk]

theorem State.takeUnbound_evict (s : State) (sh : DataShard) (k : SlotId) (hf : sh.first = true)
    (hn : s.lowestFree = none) (hk : s.oldestResting = some k) : s.takeUnbound sh = (s.evict k).bindSlot k sh := by
  simp [State.takeUnbound, hf, hn, hk]

theorem State.takeUnbound_noSlot (s : State) (sh : DataShard) (hf : sh.first = true) (hn : s.lowestFree = none)
    (hk : s.oldestResting = none) :
    s.takeUnbound sh = (s.bumpDrop .noSlot).raise .noSlot (some sh.thread) (some sh.tag) none none := by
  simp [State.takeUnbound, hf, hn, hk]

/-- The state in which a binding and a claim have been made, before the slot is written: each table it leaves alone. -/
theorem State.startParcel_outcome (s : State) (k : SlotId) (sh : DataShard) (hf : sh.first = true)
    (hl : sh.last = false) : ∃ (z : State) (v : Slot), s.startParcel k sh = z.setSlot k v ∧ v.thread = some sh.thread ∧
      z.slots = s.slots ∧ z.threads = s.threads ∧ ∀ c, z.drops c = s.drops c := by
  cases hc : s.claim (s.thread sh.thread).active.cls sh.payload with
  | failed r =>
    rw [State.startParcel_failed s k sh r hc]
    exact ⟨_, _, rfl, rfl, by simp, by simp, by simp⟩
  | taken u z =>
    rw [State.startParcel_taken s z k sh u hc hf hl]
    obtain ⟨-, rest, -, rfl⟩ := (State.claim_taken_iff s z _ _ u).mp hc
    exact ⟨_, _, rfl, rfl, by simp, by simp, fun c => by rw [State.drops_judgeRise]; rfl⟩

end Sys2Proof.Machine

open Sys2Proof Sys2Proof.Machine

/-- Settles O23, by the tally before the drop. -/
theorem unboundShardWithoutFIsOrphan : Obligations.UnboundShardWithoutFIsOrphan := by
  intro s sh hb hf
  have htake : s.takeShard sh = s.dropOrphan sh.thread := by
    rw [State.takeShard_unbound s sh hb]
    simp [State.takeUnbound, hf]
  refine ⟨fun h => ?_, fun h => ?_⟩
  · rw [htake, State.dropOrphan]
    exact if_neg (by rw [State.bumpDrop_orphanTally]; show ¬ s.orphanTally + 1 ≥ 16; omega)
  · rw [htake, State.dropOrphan]
    exact if_pos (by rw [State.bumpDrop_orphanTally]; show s.orphanTally + 1 ≥ 16; omega)

/-- Settles O24: the lowest FREE slot is bound, and the parcel started there by the outcome of the claim. -/
theorem firstShardBindsTheLowestFreeSlot : Obligations.FirstShardBindsTheLowestFreeSlot := by
  intro s sh k hb hf hk hlow c t
  have ht : t = (s.setBinding sh.thread (some k)).startParcel k sh := by
    show s.takeShard sh = _
    rw [State.takeShard_unbound s sh hb, State.takeUnbound_free s sh k hf (s.lowestFree_eq k hk hlow)]
    rfl
  have hcls : ((s.setBinding sh.thread (some k)).thread sh.thread).active.cls = c := by
    rw [State.thread_setBinding_self]
  refine ⟨fun u rest hl hm hp hroom hfree => ?_, fun hquota => ?_, fun hroom hfree => ?_⟩
  · have hclaim := State.claim_success (s.setBinding sh.thread (some k)) c sh.payload u rest hroom hfree
    have hoct : (((s.setBinding sh.thread (some k)).takeUnit c sh.payload u rest).judgeRise c).store.octets =
        Memory.writeAll s.store.octets (unitAddress u) sh.payload := by simp
    rw [State.startParcel_taken _ _ k sh u (by rw [hcls]; exact hclaim) hf hl,
      State.unitOctets_written hm hp hoct] at ht
    rw [ht]
    refine ⟨by simp, by simp, by simp, by simp, by simp, ?_, fun j hj => ?_, fun x hx => ?_, by simp, by simp, by simp,
      by simp, fun a ha => ?_⟩
    · exact State.unitOctets_written hm hp hoct
    · simp [State.slot_setSlot_ne _ _ _ _ hj]
    · simp [State.thread_setBinding_ne _ _ _ _ hx]
    · exact State.read_outside hm hp hoct ha
  · have hclaim := State.claim_quota (s.setBinding sh.thread (some k)) c sh.payload hquota
    rw [State.startParcel_failed _ k sh .quota (by rw [hcls]; exact hclaim)] at ht
    rw [ht]
    exact ⟨by simp, by simp, by simp, State.parcels_poison_self _ _ _ _ _ _ .quota⟩
  · have hclaim := State.claim_store (s.setBinding sh.thread (some k)) c sh.payload hroom hfree
    rw [State.startParcel_failed _ k sh .store (by rw [hcls]; exact hclaim)] at ht
    rw [ht]
    exact ⟨by simp, by simp, by simp, State.parcels_poison_self _ _ _ _ _ _ .store⟩

/-- Settles O25, from the weighing of the RESTING slots. -/
theorem oldestRestingSlotIsEvictedOrTheShardRefused : Obligations.OldestRestingSlotIsEvictedOrTheShardRefused := by
  refine ⟨fun s sh k t₀ p₀ e₀ hb hf hl hne hfree hk hold => ?_, fun s sh hb hf hbusy => ?_⟩
  · have holdest : s.oldestResting = some k := by
      refine s.oldestResting_eq k _ (s.restingAge_resting k t₀ p₀ e₀ hk) fun j m hm => ?_
      obtain ⟨t₁, p₁, e₁, hj, rfl⟩ := State.restingAge_some hm
      exact hold j t₁ p₁ e₁ hj
    have htake : s.takeShard sh = (((s.setBinding t₀ none).bumpDrop .evictions).setBinding sh.thread
        (some k)).startParcel k sh := by
      rw [State.takeShard_unbound s sh hb, State.takeUnbound_evict s sh k hf (s.lowestFree_none hfree) holdest,
        State.evict_resting hk]
      rfl
    obtain ⟨z, v, hstart, hv, hslots, hthreads, hdrops⟩ := State.startParcel_outcome
      (((s.setBinding t₀ none).bumpDrop .evictions).setBinding sh.thread (some k)) k sh hf hl
    have hthread := fun x => State.thread_congr _ z x hthreads
    intro t
    rw [show t = z.setSlot k v from htake.trans hstart]
    refine ⟨by simpa using hv, ?_, ?_, ?_, fun j hj => ?_⟩
    · rw [State.thread_setSlot, hthread, State.thread_setBinding_self]
    · rw [State.thread_setSlot, hthread, State.thread_setBinding_ne _ _ _ _ hne, State.thread_bumpDrop,
        State.thread_setBinding_self]
    · rw [State.drops_setSlot, hdrops]
      exact State.drops_bumpDrop_self _ _
    · rw [State.slot_setSlot_ne _ _ _ _ hj, State.slot_congr _ z j hslots]
      rfl
  · have hfree : ∀ j, s.slot j ≠ .free := fun j hj => by simpa [hj, Slot.busy] using hbusy j
    have hrest : ∀ j, s.restingAge j = none := fun j => by
      by_contra hn
      obtain ⟨m, hm⟩ := Option.ne_none_iff_exists'.mp hn
      obtain ⟨t, p, x, hj, -⟩ := State.restingAge_some hm
      simpa [hj, Slot.busy] using hbusy j
    rw [State.takeShard_unbound s sh hb,
      State.takeUnbound_noSlot s sh hf (s.lowestFree_none hfree) (s.oldestResting_none hrest)]

end

section
/-! SUPPORT. The rows of the judgements in RESTING and ASSEMBLING, each an equation in the order of the checks (01 R10, R11). -/

namespace Sys2Proof.Machine

theorem fillInRange_iff (fill : Byte) : fillInRange fill = true ↔ 5 ≤ fill.toNat ∧ fill.toNat ≤ 56 := by
  simp [fillInRange]

/-- The fill check of a shard passes where it carries no L or has its fill in range (02 R31). -/
theorem fillFails_eq_false {last : Bool} {fill : Byte}
    (h : last = false ∨ 5 ≤ fill.toNat ∧ fill.toNat ≤ 56) : (last && !fillInRange fill) = false := by
  rcases h with h | h
  · simp [h]
  · simp [(fillInRange_iff fill).mpr h]

theorem fillFails_eq_true {last : Bool} {fill : Byte}
    (h : ¬ (last = false ∨ 5 ≤ fill.toNat ∧ fill.toNat ≤ 56)) : (last && !fillInRange fill) = true := by
  obtain ⟨hl, hf⟩ := not_or.mp h
  simp only [Bool.not_eq_false] at hl
  simp only [hl, Bool.true_and, Bool.not_eq_true', ← Bool.not_eq_true, fillInRange_iff]
  exact hf

theorem Assembly.beyondLast_iff (a : Assembly) (p : Nat) :
    a.beyondLast p = true ↔ ∃ h, a.lastHeld = some h ∧ h < p := by
  simp [Assembly.beyondLast, Option.any_eq_true]

/-! ### RESTING (01 R10) -/

section Resting

variable (s : State) (k : SlotId) (x : Seq) (sh : DataShard)

theorem State.judgeResting_start (hd : distance sh.seq x = 0) (hf : sh.first = true) :
    s.judgeResting k x sh = s.startParcel k sh := by
  simp [State.judgeResting, hd, hf]

theorem State.judgeResting_framing (hd : distance sh.seq x = 0) (hf : sh.first = false) :
    s.judgeResting k x sh = s.poison k sh.thread s.aging.periodNo [] (some sh.tag) .framing := by
  simp [State.judgeResting, hd, hf]

theorem State.judgeResting_behind (hd : 128 ≤ distance sh.seq x) : s.judgeResting k x sh = s.bumpDrop .behind := by
  have h0 : distance sh.seq x ≠ 0 := by omega
  simp [State.judgeResting, h0, hd]

theorem State.judgeResting_window (hd : distance sh.seq x < 128)
    (hw : (s.thread sh.thread).active.window < distance sh.seq x) :
    s.judgeResting k x sh = s.poison k sh.thread s.aging.periodNo [] (some sh.tag) .window := by
  have h0 : distance sh.seq x ≠ 0 := by omega
  simp [State.judgeResting, h0, Nat.not_le.mpr hd, hw]

variable (h0 : 0 < distance sh.seq x) (hd : distance sh.seq x < 128)
  (hw : distance sh.seq x ≤ (s.thread sh.thread).active.window)

include h0 hd hw

theorem State.judgeResting_overlong (hl : (s.thread sh.thread).active.limit ≤ distance sh.seq x) :
    s.judgeResting k x sh = s.poison k sh.thread s.aging.periodNo [] (some sh.tag) .overlong := by
  simp [State.judgeResting, h0.ne', Nat.not_le.mpr hd, Nat.not_lt.mpr hw, hl]

variable (hl : distance sh.seq x < (s.thread sh.thread).active.limit)

include hl

theorem State.judgeResting_fill (hf : (sh.last && !fillInRange sh.fill) = true) :
    s.judgeResting k x sh = s.poison k sh.thread s.aging.periodNo [] (some sh.tag) .framing := by
  simp only [State.judgeResting, h0.ne', Nat.not_le.mpr hd, Nat.not_lt.mpr hw, Nat.not_le.mpr hl, hf, if_true, if_false]

theorem State.judgeResting_failed (hf : (sh.last && !fillInRange sh.fill) = false) (r : PoisonReason)
    (hc : s.claim (s.thread sh.thread).active.cls sh.payload = .failed r) :
    s.judgeResting k x sh = s.poison k sh.thread s.aging.periodNo [] (some sh.tag) r := by
  simp only [State.judgeResting, h0.ne', Nat.not_le.mpr hd, Nat.not_lt.mpr hw, Nat.not_le.mpr hl, hf, hc, if_false,
    Bool.false_eq_true]

theorem State.judgeResting_held (hf : (sh.last && !fillInRange sh.fill) = false) (u : UnitNo) (z : State)
    (hc : s.claim (s.thread sh.thread).active.cls sh.payload = .taken u z) :
    s.judgeResting k x sh = z.setSlot k (.assembling sh.thread s.aging.periodNo
      ((Assembly.begin_ x).hold (sh.entry u) (if sh.last then some (distance sh.seq x) else none))) := by
  simp only [State.judgeResting, h0.ne', Nat.not_le.mpr hd, Nat.not_lt.mpr hw, Nat.not_le.mpr hl, hf, hc, if_false,
    Bool.false_eq_true]

end Resting

/-! ### ASSEMBLING (01 R11) -/

section Assembling

variable (s : State) (k : SlotId) (a : Assembly) (sh : DataShard)

theorem State.judgeAssembling_behind (hd : 128 ≤ distance sh.seq a.expected) :
    s.judgeAssembling k a sh = s.bumpDrop .behind := by
  simp [State.judgeAssembling, hd]

theorem State.judgeAssembling_window (hd : distance sh.seq a.expected < 128)
    (hw : (s.thread sh.thread).active.window < distance sh.seq a.expected) : s.judgeAssembling k a sh =
      s.poison k sh.thread s.aging.periodNo a.units (skipTagOf a.parcelTag sh.tag) .window := by
  simp [State.judgeAssembling, Nat.not_le.mpr hd, hw]

variable (hd : distance sh.seq a.expected < 128)
  (hw : distance sh.seq a.expected ≤ (s.thread sh.thread).active.window)

include hd hw

theorem State.judgeAssembling_duplicate (h0 : distance sh.seq a.expected ≠ 0) {f : EarlyEntry} (hf : f ∈ a.early)
    (hfs : f.seq = sh.seq) : s.judgeAssembling k a sh = s.bumpDrop .duplicate := by
  have hany : a.early.any (fun e => e.seq == sh.seq) = true := List.any_eq_true.mpr ⟨f, hf, by simp [hfs]⟩
  simp only [State.judgeAssembling, Nat.not_le.mpr hd, Nat.not_lt.mpr hw, h0, hany, ne_eq, not_false_eq_true, and_self,
    if_true, if_false]

variable (hfresh : distance sh.seq a.expected = 0 ∨ ∀ f ∈ a.early, f.seq ≠ sh.seq)

omit hd hw in
include hfresh in
/-- A fresh shard is no duplicate of an entry held (01 R11 step 3). -/
theorem Assembly.not_duplicate :
    ¬ (distance sh.seq a.expected ≠ 0 ∧ a.early.any (fun e => e.seq == sh.seq) = true) := by
  rintro ⟨h0, hany⟩
  obtain ⟨f, hf, hfs⟩ := List.any_eq_true.mp hany
  exact hfresh.resolve_left h0 f hf (by simpa using hfs)

include hfresh

section Beyond

variable (hb : a.beyondLast (position sh.seq a.parcelStart) = true)

include hb

theorem State.judgeAssembling_orphan (hr : (s.thread sh.thread).active.retain = false) :
    s.judgeAssembling k a sh = s.dropOrphan sh.thread := by
  have hdup := Assembly.not_duplicate a sh hfresh
  simp only [State.judgeAssembling, Nat.not_le.mpr hd, Nat.not_lt.mpr hw, hdup, hb, hr, if_true, if_false,
    Bool.false_eq_true]

theorem State.judgeAssembling_beyond_failed (hr : (s.thread sh.thread).active.retain = true) (r : PoisonReason)
    (hc : s.claim (s.thread sh.thread).active.cls sh.payload = .failed r) : s.judgeAssembling k a sh =
      s.poison k sh.thread s.aging.periodNo a.units (skipTagOf a.parcelTag sh.tag) r := by
  have hdup := Assembly.not_duplicate a sh hfresh
  simp only [State.judgeAssembling, Nat.not_le.mpr hd, Nat.not_lt.mpr hw, hdup, hb, hr, hc, if_true, if_false]

theorem State.judgeAssembling_beyond_held (hr : (s.thread sh.thread).active.retain = true) (u : UnitNo) (z : State)
    (hc : s.claim (s.thread sh.thread).active.cls sh.payload = .taken u z) : s.judgeAssembling k a sh =
      z.setSlot k (.assembling sh.thread s.aging.periodNo (a.hold (sh.entry u) a.lastHeld)) := by
  have hdup := Assembly.not_duplicate a sh hfresh
  simp only [State.judgeAssembling, Nat.not_le.mpr hd, Nat.not_lt.mpr hw, hdup, hb, hr, hc, if_true, if_false]

end Beyond

section Within

variable (hb : a.beyondLast (position sh.seq a.parcelStart) = false)

include hb

theorem State.judgeAssembling_overlong
    (hl : (s.thread sh.thread).active.limit ≤ position sh.seq a.parcelStart) : s.judgeAssembling k a sh =
      s.poison k sh.thread s.aging.periodNo a.units (skipTagOf a.parcelTag sh.tag) .overlong := by
  have hdup := Assembly.not_duplicate a sh hfresh
  simp only [State.judgeAssembling, Nat.not_le.mpr hd, Nat.not_lt.mpr hw, hdup, hb, hl, if_true, if_false,
    Bool.false_eq_true]

variable (hl : position sh.seq a.parcelStart < (s.thread sh.thread).active.limit)

include hl

theorem State.judgeAssembling_fill (hf : (sh.last && !fillInRange sh.fill) = true) : s.judgeAssembling k a sh =
      s.poison k sh.thread s.aging.periodNo a.units (skipTagOf a.parcelTag sh.tag) .framing := by
  have hdup := Assembly.not_duplicate a sh hfresh
  simp only [State.judgeAssembling, Nat.not_le.mpr hd, Nat.not_lt.mpr hw, hdup, hb, Nat.not_le.mpr hl, hf, if_true,
    if_false, Bool.false_eq_true]

variable (hf : (sh.last && !fillInRange sh.fill) = false)

include hf

theorem State.judgeAssembling_failed (r : PoisonReason)
    (hc : s.claim (s.thread sh.thread).active.cls sh.payload = .failed r) : s.judgeAssembling k a sh =
      s.poison k sh.thread s.aging.periodNo a.units (skipTagOf a.parcelTag sh.tag) r := by
  have hdup := Assembly.not_duplicate a sh hfresh
  simp only [State.judgeAssembling, Nat.not_le.mpr hd, Nat.not_lt.mpr hw, hdup, hb, Nat.not_le.mpr hl, hf, hc,
    if_false, Bool.false_eq_true]

omit hd hw hfresh in
theorem State.judgeAssembling_due (h0 : distance sh.seq a.expected = 0) (u : UnitNo) (z : State)
    (hc : s.claim (s.thread sh.thread).active.cls sh.payload = .taken u z) :
    s.judgeAssembling k a sh = z.placeAndDrain k sh.thread s.aging.periodNo a (sh.entry u) := by
  simp only [State.judgeAssembling, h0, hb, Nat.not_le.mpr hl, hf, hc, Nat.not_lt_zero, Nat.reduceLeDiff, ne_eq,
    not_true_eq_false, false_and, if_true, if_false, Bool.false_eq_true]

theorem State.judgeAssembling_held (h0 : distance sh.seq a.expected ≠ 0) (u : UnitNo) (z : State)
    (hc : s.claim (s.thread sh.thread).active.cls sh.payload = .taken u z) : s.judgeAssembling k a sh =
      z.setSlot k (.assembling sh.thread s.aging.periodNo (a.hold (sh.entry u)
        (if sh.last then some (position sh.seq a.parcelStart) else a.lastHeld))) := by
  have hdup := Assembly.not_duplicate a sh hfresh
  simp only [State.judgeAssembling, Nat.not_le.mpr hd, Nat.not_lt.mpr hw, hdup, hb, Nat.not_le.mpr hl, hf, hc, h0,
    if_false, Bool.false_eq_true]

end Within

end Assembling

end Sys2Proof.Machine

open Sys2Proof Sys2Proof.Machine

/-- Settles O26, row by row of the table of 01 R10. -/
theorem restingSlotJudgesByDistance : Obligations.RestingSlotJudgesByDistance := by
  intro s sh k t₀ p₀ e hb hk cfg d now t skipping room fillOk
  let rested := s.setSlot k (.resting t₀ now e)
  have ht : t = rested.judgeResting k e sh := State.takeShard_resting s sh k t₀ p₀ e hb hk
  have hskip : ∀ r, t = rested.poison k sh.thread now [] (some sh.tag) r → skipping r := by
    intro r h
    show t.slot k = _
    rw [h, State.slot_poison_self]
  refine ⟨fun h => ?_, fun h hf => ?_, fun hw hd => ?_, fun h0 hw hd hl => ?_, fun h0 hw hd hl hf => ?_,
    fun h0 hw hd hl hf hr => ?_, fun h0 hw hd hl hf hr hfree => ?_, fun u rest h0 hw hd hl hf hr hfree => ?_,
    fun u rest h hf hlast hr hfree => ?_⟩
  · rw [ht]
    exact State.judgeResting_behind rested k e sh h
  · exact hskip _ (ht.trans (State.judgeResting_framing rested k e sh h hf))
  · exact hskip _ (ht.trans (State.judgeResting_window rested k e sh hd hw))
  · exact hskip _ (ht.trans (State.judgeResting_overlong rested k e sh h0 hd hw hl))
  · exact hskip _ (ht.trans (State.judgeResting_fill rested k e sh h0 hd hw hl (fillFails_eq_true hf)))
  · exact hskip _ (ht.trans (State.judgeResting_failed rested k e sh h0 hd hw hl (fillFails_eq_false hf) _
      (State.claim_quota rested _ _ (Nat.not_lt.mp hr))))
  · exact hskip _ (ht.trans (State.judgeResting_failed rested k e sh h0 hd hw hl (fillFails_eq_false hf) _
      (State.claim_store rested _ _ hr hfree)))
  · rw [ht, State.judgeResting_held rested k e sh h0 hd hw hl (fillFails_eq_false hf) u _
      (State.claim_success rested _ _ u rest hr hfree), State.slot_setSlot_self]
    rfl
  · have he : sh.seq = e := (distance_eq_zero_iff _ _).mp h
    rw [ht, State.judgeResting_start rested k e sh h hf,
      State.startParcel_taken rested _ k sh u (State.claim_success rested _ _ u rest hr hfree) hf hlast, State.slot_setSlot_self, he]
    exact ⟨_, rfl⟩

/-- Settles O27, row by row in the order of 01 R11. -/
theorem assemblingSlotJudgesInOrder : Obligations.AssemblingSlotJudgesInOrder := by
  intro s sh k t₀ p₀ a hb hk cfg d p now t stamped skipping inWindow fresh beyond badFill room
  have ht : t = stamped.judgeAssembling k a sh := State.takeShard_assembling s sh k t₀ p₀ a hb hk
  have hskip : ∀ r, t = stamped.poison k sh.thread now a.units (skipTagOf a.parcelTag sh.tag) r → skipping r := by
    intro r h
    show t.slot k = _
    rw [h, State.slot_poison_self]
    rfl
  have hfresh : fresh → distance sh.seq a.expected = 0 ∨ ∀ f ∈ a.early, f.seq ≠ sh.seq := id
  have hbeyond : beyond → a.beyondLast (position sh.seq a.parcelStart) = true := (a.beyondLast_iff _).mpr
  have hwithin : ¬ beyond → a.beyondLast (position sh.seq a.parcelStart) = false := fun h =>
    Bool.not_eq_true _ ▸ mt (a.beyondLast_iff _).mp h
  have hgood : ¬ badFill → (sh.last && !fillInRange sh.fill) = false := fun h => by
    refine fillFails_eq_false ?_
    cases hlast : sh.last with
    | false => exact .inl rfl
    | true =>
      have hin : ¬ (sh.fill.toNat < 5 ∨ 56 < sh.fill.toNat) := fun hout => h ⟨hlast, hout⟩
      omega
  refine ⟨fun hd => ?_, fun hw hd => ?_, fun ⟨hw, hd⟩ hf => ?_, fun ⟨hw, hd⟩ hf hb hr => ?_, fun ⟨hw, hd⟩ hf hb hl => ?_,
    fun ⟨hw, hd⟩ hf hb hl hbad => ?_, fun ⟨hw, hd⟩ hf hb hl hg hr => ?_, fun ⟨hw, hd⟩ hf hb hl hg hr hfree => ?_,
    fun ⟨hw, hd⟩ hf hb hret hr => ?_, fun ⟨hw, hd⟩ hf hb hret hr hfree => ?_⟩
  · exact ht.trans (State.judgeAssembling_behind stamped k a sh hd)
  · exact hskip _ (ht.trans (State.judgeAssembling_window stamped k a sh hd hw))
  · obtain ⟨h0, hdup⟩ := not_or.mp hf
    simp only [not_forall, not_not] at hdup
    obtain ⟨f, hfm, hfs⟩ := hdup
    exact ht.trans (State.judgeAssembling_duplicate stamped k a sh hd hw h0 hfm hfs)
  · exact ht.trans (State.judgeAssembling_orphan stamped k a sh hd hw (hfresh hf) (hbeyond hb) hr)
  · exact hskip _ (ht.trans (State.judgeAssembling_overlong stamped k a sh hd hw (hfresh hf) (hwithin hb) hl))
  · refine hskip _ (ht.trans (State.judgeAssembling_fill stamped k a sh hd hw (hfresh hf) (hwithin hb) hl
      (fillFails_eq_true ?_)))
    obtain ⟨hlast, hfill⟩ := hbad
    simp only [hlast, Bool.true_eq_false, false_or]
    omega
  · exact hskip _ (ht.trans (State.judgeAssembling_failed stamped k a sh hd hw (hfresh hf) (hwithin hb) hl (hgood hg) _
      (State.claim_quota stamped _ _ (Nat.not_lt.mp hr))))
  · exact hskip _ (ht.trans (State.judgeAssembling_failed stamped k a sh hd hw (hfresh hf) (hwithin hb) hl (hgood hg) _
      (State.claim_store stamped _ _ hr hfree)))
  · exact hskip _ (ht.trans (State.judgeAssembling_beyond_failed stamped k a sh hd hw (hfresh hf) (hbeyond hb) hret _
      (State.claim_quota stamped _ _ (Nat.not_lt.mp hr))))
  · exact hskip _ (ht.trans (State.judgeAssembling_beyond_failed stamped k a sh hd hw (hfresh hf) (hbeyond hb) hret _
      (State.claim_store stamped _ _ hr hfree)))

/-- Settles O28: the shard claims its unit in either row of 01 R11 that holds it, and its place is that of
`insertEarly_split`. -/
theorem earlyShardIsHeldInOrder : Obligations.EarlyShardIsHeldInOrder := by
  intro s sh k t₀ p₀ a u rest hb hk cfg d p beyond h0 hw hd hdup hret hin hroom hfree
  let stamped := s.setSlot k (.assembling t₀ s.aging.periodNo a)
  have ht : s.takeShard sh = stamped.judgeAssembling k a sh := State.takeShard_assembling s sh k t₀ p₀ a hb hk
  have hclaim := State.claim_success stamped cfg.cls sh.payload u rest hroom hfree
  obtain ⟨before, after, hsplit, hinsert, hbefore, hafter⟩ := insertEarly_split a.expected (sh.entry u) a.early
  have hheld : ∀ lastHeld, a.hold (sh.entry u) lastHeld = { a with
      early := before ++ ⟨sh.seq, u, sh.tag, sh.first, sh.last, sh.fill⟩ :: after, lastHeld := lastHeld } :=
    fun lastHeld => by simp only [Assembly.hold, hinsert]; rfl
  by_cases hbeyond : beyond
  · refine ⟨before, after, a.lastHeld, hsplit, hbefore, hafter, fun h => absurd hbeyond h, fun _ => rfl, ?_⟩
    rw [ht, State.judgeAssembling_beyond_held stamped k a sh hd hw (.inr hdup) ((a.beyondLast_iff _).mpr hbeyond) (hret hbeyond)
      u _ hclaim, State.slot_setSlot_self, hheld]
    rfl
  · obtain ⟨hl, hfill⟩ := hin hbeyond
    refine ⟨before, after, if sh.last then some p else a.lastHeld, hsplit, hbefore, hafter, fun _ h => by simp [h],
      fun h => by simp [h.resolve_left hbeyond], ?_⟩
    rw [ht, State.judgeAssembling_held stamped k a sh hd hw (.inr hdup)
      (Bool.not_eq_true _ ▸ mt (a.beyondLast_iff _).mp hbeyond) hl (fillFails_eq_false hfill) h0.ne' u _ hclaim,
      State.slot_setSlot_self, hheld]
    rfl

end

section
/-! SUPPORT. A due shard and the drain behind it: runs of held entries placed one after another, restarts on F, and the state in which the shard's unit has been claimed (01 R14 to R17, 02 R27 to R29). -/

namespace Sys2Proof.Machine

/-! ### The running check over held entries (02 R33) -/

theorem State.checkOver_congr {s z : State} {es : List EarlyEntry} (h : ∀ e ∈ es, z.unitOctets e.unit = s.unitOctets e.unit)
    (check : BitVec 32) : z.checkOver check es = s.checkOver check es := by
  unfold State.checkOver
  exact List.foldl_ext _ _ _ fun c e he => by rw [h e he]

/-! ### A parcel extended by placed units (01 R14) -/

/-- A parcel with units appended to its placed chain: expected as many further, the tag known, the running check as it is
then, and the entries still held. -/
def Assembly.extended (a : Assembly) (tag : Tag) (units : List UnitNo) (check : BitVec 32) (held : List EarlyEntry) :
    Assembly :=
  { a with
    expected := a.expected + BitVec.ofNat 8 units.length, parcelTag := some tag, placed := a.placed ++ units,
    check := check, early := held }

theorem Assembly.extended_parcelStart (a : Assembly) (tag : Tag) (units : List UnitNo) (check : BitVec 32)
    (held : List EarlyEntry) : (a.extended tag units check held).parcelStart = a.parcelStart := rfl

theorem Assembly.extended_check (a : Assembly) (tag : Tag) (units : List UnitNo) (check : BitVec 32)
    (held : List EarlyEntry) : (a.extended tag units check held).check = check := rfl

theorem Assembly.extended_expected_one (a : Assembly) (tag : Tag) (u : UnitNo) (check : BitVec 32)
    (held : List EarlyEntry) : (a.extended tag [u] check held).expected = a.expected + 1 := by
  simp only [Assembly.extended, List.length_singleton, BitVec.ofNat_eq_ofNat]

/-- Units appended in two parts. -/
theorem Assembly.extended_extended (a : Assembly) (tag : Tag) (units more : List UnitNo) (check check' : BitVec 32)
    (held held' : List EarlyEntry) : (a.extended tag units check held).extended tag more check' held' =
      a.extended tag (units ++ more) check' held' := by
  simp only [Assembly.extended, List.length_append, List.append_assoc, BitVec.ofNat_add, BitVec.add_assoc]

/-- A unit appended, and others behind it. -/
theorem Assembly.extended_cons (a : Assembly) (tag : Tag) (u : UnitNo) (units : List UnitNo) (check : BitVec 32)
    (held : List EarlyEntry) : a.extended tag (u :: units) check held = { a with
      expected := a.expected + 1 + BitVec.ofNat 8 units.length, parcelTag := some tag, placed := a.placed ++ u :: units,
      check := check, early := held } := by
  have hexp : a.expected + BitVec.ofNat 8 (u :: units).length = a.expected + 1 + BitVec.ofNat 8 units.length := by
    rw [List.length_cons, Nat.add_comm, BitVec.ofNat_add, BitVec.add_assoc]
    rfl
  simp only [Assembly.extended, hexp]

/-- The parcel that a restart on F begins, before the shard is appended (02 R28). -/
def Assembly.restarted (a : Assembly) (e : EarlyEntry) : Assembly :=
  { Assembly.begin_ e.seq with
    early := a.early, lastHeld := a.lastHeld.map (fun h => h - position e.seq a.parcelStart) }

/-- A restarted parcel with its first units, field by field. -/
theorem Assembly.restarted_extended (a : Assembly) (e : EarlyEntry) (units : List UnitNo) (check : BitVec 32)
    (held : List EarlyEntry) : (a.restarted e).extended e.tag (e.unit :: units) check held =
      { expected := e.seq + 1 + BitVec.ofNat 8 units.length, parcelStart := e.seq, parcelTag := some e.tag,
        placed := e.unit :: units, check := check, early := held,
        lastHeld := a.lastHeld.map (fun h => h - position e.seq a.parcelStart) } := by
  rw [Assembly.extended_cons]
  simp only [Assembly.restarted, Assembly.begin_, List.nil_append]

/-! ### A run of held entries (01 R17, 02 R29) -/

theorem length_unitsOf (es : List EarlyEntry) : (unitsOf es).length = es.length := List.length_map _

/-- A shard that joins the parcel in progress: at position 0 with F, or elsewhere without F and with the parcel's tag
(02 R27, R29). -/
def EarlyEntry.joins (e : EarlyEntry) (a : Assembly) : Prop :=
  e.seq = a.parcelStart ∧ e.first = true ∨ e.seq ≠ a.parcelStart ∧ e.first = false ∧ a.parcelTag = some e.tag

/-- A shard without L that has passed the placement checks extends its parcel by one unit (01 R14, 02 R33). -/
theorem State.placePassed_extends (s : State) (k : SlotId) (t : ThreadId) (stamp : PeriodNo) (a : Assembly)
    (e : EarlyEntry) (hl : e.last = false) : s.placePassed k t stamp { a with parcelTag := some e.tag } e =
      .more (a.extended e.tag [e.unit] (parcelCheckUpdate a.check (s.unitOctets e.unit)) a.early) s := by
  rw [State.placePassed_more s k t stamp _ e hl, Assembly.extended_cons]
  simp only [List.length_nil, BitVec.ofNat_eq_ofNat, BitVec.add_zero]

theorem State.placeShard_of_joins (s : State) (k : SlotId) (t : ThreadId) (stamp : PeriodNo) {a : Assembly}
    {e : EarlyEntry} (h : e.joins a) (hl : e.last = false) : s.placeShard k t stamp a e =
      .more (a.extended e.tag [e.unit] (parcelCheckUpdate a.check (s.unitOctets e.unit)) a.early) s := by
  rw [← State.placePassed_extends s k t stamp a e hl]
  rcases h with ⟨hs, hf⟩ | ⟨hs, hf, hg⟩
  · exact State.placeShard_start s k t stamp a e hs hf
  · rw [State.placeShard_joins s k t stamp a e hs hf hg, ← hg]

/-- The drain places a run of held entries one after another, and goes on behind it. -/
theorem State.drain_run (s : State) (k : SlotId) (t : ThreadId) (stamp : PeriodNo) (run later : List EarlyEntry)
    {a : Assembly} {g : Tag} (hea : a.early = run ++ later) (hg : a.parcelTag = some g)
    (hr : isRun a.parcelStart g a.expected run) :
    s.drain k t stamp a = s.drain k t stamp (a.extended g (unitsOf run) (s.checkOver a.check run) later) := by
  induction run generalizing a with
  | nil =>
    have hself : a.extended g [] a.check later = a := by
      rw [List.nil_append] at hea
      simp only [Assembly.extended, List.length_nil, BitVec.add_zero, List.append_nil, ← hg, ← hea]
    rw [unitsOf_nil, State.checkOver_nil, hself]
  | cons e run ih =>
    obtain ⟨hseq, hstart, hfirst, hlast, rfl, hrun⟩ := hr
    have hplace := State.placeShard_of_joins s k t stamp (a := { a with early := run ++ later }) (e := e)
      (.inr ⟨fun h => hstart (hseq ▸ h), hfirst, hg⟩) hlast
    rw [State.drain_more s k t stamp a hea hseq hplace, ih rfl rfl hrun, Assembly.extended_extended, unitsOf_cons,
      State.checkOver_cons]
    rfl

/-- A due shard that joins, and the run of held entries placed behind it (01 R16, R17). -/
theorem State.placeAndDrain_joins (s : State) (k : SlotId) (t : ThreadId) (stamp : PeriodNo) {a : Assembly}
    {e : EarlyEntry} {run later : List EarlyEntry} (h : e.joins a) (hl : e.last = false) (hd : e.seq = a.expected)
    (hea : a.early = run ++ later) (hr : isRun a.parcelStart e.tag (e.seq + 1) run) :
    s.placeAndDrain k t stamp a e = s.drain k t stamp (a.extended e.tag (e.unit :: unitsOf run)
      (s.checkOver (parcelCheckUpdate a.check (s.unitOctets e.unit)) run) later) := by
  let b := a.extended e.tag [e.unit] (parcelCheckUpdate a.check (s.unitOctets e.unit)) a.early
  have hrun : isRun b.parcelStart e.tag b.expected run := by
    rw [Assembly.extended_expected_one, Assembly.extended_parcelStart, ← hd]
    exact hr
  have hdrain := State.drain_run s k t stamp run later (a := b) (g := e.tag) hea rfl hrun
  rw [State.placeAndDrain_more s k t stamp a e (State.placeShard_of_joins s k t stamp h hl), hdrain,
    Assembly.extended_extended, Assembly.extended_check, List.singleton_append]

/-! ### A restart on F (02 R28) -/

/-- The state a restart on F leaves: the old placed units returned, a FRAMING discard noticed and counted (02 R28). -/
def State.restartedFrom (s : State) (t : ThreadId) (a : Assembly) (e : EarlyEntry) : State :=
  (s.restartParcel t a e (position e.seq a.parcelStart)).2

theorem State.restartedFrom_facts (s : State) (t : ThreadId) (a : Assembly) (e : EarlyEntry) :
    (s.restartedFrom t a e).store.freeList = s.store.freeList ++ a.placed ∧
      (s.restartedFrom t a e).parcels .framing = s.parcels .framing + 1 ∧
      (s.restartedFrom t a e).slotReports = s.slotReports := by
  unfold State.restartedFrom State.restartParcel
  exact ⟨by simp, by simp, by simp⟩

theorem State.unitOctets_restartedFrom (s : State) (t : ThreadId) (a : Assembly) (e : EarlyEntry) (v : UnitNo) :
    (s.restartedFrom t a e).unitOctets v = s.unitOctets v := by
  apply State.unitOctets_of_octets
  simp [State.restartedFrom, State.restartParcel]

/-- A restart on F by a shard without L (02 R28). -/
theorem State.placeShard_restarts (s : State) (k : SlotId) (t : ThreadId) (stamp : PeriodNo) {a : Assembly}
    {e : EarlyEntry} (hs : e.seq ≠ a.parcelStart) (hf : e.first = true) (hl : e.last = false) :
    s.placeShard k t stamp a e = .more ((a.restarted e).extended e.tag [e.unit]
      (parcelCheckUpdate 0xFFFFFFFF#32 (s.unitOctets e.unit)) a.early) (s.restartedFrom t a e) := by
  have h := State.placePassed_extends (s.restartedFrom t a e) k t stamp (a.restarted e) e hl
  rw [State.unitOctets_restartedFrom] at h
  exact (State.placeShard_restart s k t stamp a e hs hf).trans h

/-- The run of held entries placed behind a restart (01 R17, 02 R28). -/
theorem State.drain_restarted (s : State) (k : SlotId) (t : ThreadId) (stamp : PeriodNo) {a : Assembly} {e : EarlyEntry}
    {run later : List EarlyEntry} (hea : a.early = run ++ later) (hr : isRun e.seq e.tag (e.seq + 1) run) :
    (s.restartedFrom t a e).drain k t stamp ((a.restarted e).extended e.tag [e.unit]
        (parcelCheckUpdate 0xFFFFFFFF#32 (s.unitOctets e.unit)) a.early) =
      (s.restartedFrom t a e).drain k t stamp
        { expected := e.seq + 1 + BitVec.ofNat 8 run.length, parcelStart := e.seq, parcelTag := some e.tag,
          placed := e.unit :: unitsOf run, check := s.checkOver 0xFFFFFFFF#32 (e :: run), early := later,
          lastHeld := a.lastHeld.map (fun h => h - position e.seq a.parcelStart) } := by
  let b := (a.restarted e).extended e.tag [e.unit] (parcelCheckUpdate 0xFFFFFFFF#32 (s.unitOctets e.unit)) a.early
  have hrun : isRun b.parcelStart e.tag b.expected run := by
    rw [Assembly.extended_expected_one, Assembly.extended_parcelStart]
    exact hr
  have hdrain := State.drain_run (s.restartedFrom t a e) k t stamp run later (a := b) (g := e.tag) hea rfl hrun
  rw [hdrain, Assembly.extended_extended, Assembly.extended_check, List.singleton_append,
    Assembly.restarted_extended, length_unitsOf, State.checkOver_cons,
    State.checkOver_congr fun f _ => State.unitOctets_restartedFrom s t a e f.unit]

/-! ### A due shard whose unit has been claimed (01 R11 step 8) -/

/-- What the claim of a due shard's unit leaves for its placement: the rest of the free list, the payload in the unit, every
other unit, and the counts as they were. -/
structure State.ClaimedFrom (s z : State) (u : UnitNo) (payload : List Byte) (rest : List UnitNo) : Prop where
  freeList : z.store.freeList = rest
  written : z.unitOctets u = payload
  other : ∀ v, v ≠ u → z.unitOctets v = s.unitOctets v
  parcels : ∀ c, z.parcels c = s.parcels c
  reports : z.slotReports = s.slotReports

/-- A due shard that passes the arrival checks claims its unit and is placed (01 R11, R14). -/
theorem State.takeShard_due {s : State} {sh : DataShard} {k : SlotId} {t₀ : ThreadId} {p₀ : PeriodNo} {a : Assembly}
    {u : UnitNo} {rest : List UnitNo} (hb : (s.thread sh.thread).binding = some k)
    (hk : s.slot k = .assembling t₀ p₀ a) (hd : sh.seq = a.expected)
    (hfill : sh.last = false ∨ 5 ≤ sh.fill.toNat ∧ sh.fill.toNat ≤ 56)
    (hh : ∀ h, a.lastHeld = some h → position sh.seq a.parcelStart ≤ h) (hm : s.memoryLaw) (hp : sh.payload.length = 56)
    (hl : position sh.seq a.parcelStart < (s.thread sh.thread).active.limit)
    (hroom : (s.cls (s.thread sh.thread).active.cls).usage < (s.cls (s.thread sh.thread).active.cls).quota)
    (hfree : s.store.freeList = u :: rest) : ∃ z, s.ClaimedFrom z u sh.payload rest ∧
      s.takeShard sh = z.placeAndDrain k sh.thread s.aging.periodNo a (sh.entry u) := by
  let stamped := s.setSlot k (.assembling t₀ s.aging.periodNo a)
  let z := (stamped.takeUnit (s.thread sh.thread).active.cls sh.payload u rest).judgeRise (s.thread sh.thread).active.cls
  have hclaim := State.claim_success stamped (s.thread sh.thread).active.cls sh.payload u rest hroom hfree
  have hoct : z.store.octets = Memory.writeAll s.store.octets (unitAddress u) sh.payload := by simp [z, stamped]
  have hwithin : a.beyondLast (position sh.seq a.parcelStart) = false := by
    rw [← Bool.not_eq_true, Assembly.beyondLast_iff]
    rintro ⟨h, hi, hlt⟩
    exact absurd (hh h hi) (Nat.not_le.mpr hlt)
  refine ⟨z, ⟨by simp [z], State.unitOctets_written hm hp hoct, fun v hv => State.unitOctets_other hm hp hoct hv,
    fun c => ?_, by simp [z, stamped]⟩, ?_⟩
  · rw [State.parcels_judgeRise]
    rfl
  · rw [State.takeShard_assembling s sh k t₀ p₀ a hb hk]
    exact State.judgeAssembling_due stamped k a sh hwithin hl (fillFails_eq_false hfill)
      ((distance_eq_zero_iff _ _).mpr hd) u z hclaim

/-- A poison of a due shard or a drained entry gives back everything held, its own unit last (02 R42). -/
theorem State.poison_facts (s z : State) (k : SlotId) (t : ThreadId) (stamp : PeriodNo) (held : List UnitNo) (g : Tag)
    (r : PoisonReason) (hz : ∀ c, z.parcels c = s.parcels c) (hr : z.slotReports = s.slotReports) :
    (z.poison k t stamp held (some g) r).slot k = .skipping t stamp (some g) r ∧
      (z.poison k t stamp held (some g) r).store.freeList = z.store.freeList ++ held ∧
      (z.poison k t stamp held (some g) r).parcels r.counter = s.parcels r.counter + 1 ∧
      (z.poison k t stamp held (some g) r).slotReports = s.slotReports := by
  refine ⟨by simp, by simp, ?_, ?_⟩
  · rw [State.parcels_poison_self, hz]
  · rw [State.poison_slotReports, hr]

end Sys2Proof.Machine

open Sys2Proof Sys2Proof.Machine

/-- Settles O29: the claim of `takeShard_due`, then the rows of the placement and the drain behind it. -/
theorem dueShardIsPlacedAndDrainsOrPoisons : Obligations.DueShardIsPlacedAndDrainsOrPoisons := by
  refine ⟨?_, fun s k x stamp a => ⟨?_, fun e more hea hd => ⟨fun z hz => ?_, fun b z hz => ?_⟩⟩⟩
  · intro s sh k t₀ p₀ a u rest hb hk hd hfill hh hm hp hunit cfg now start next length t joins poisoned restarted hl hroom
      hfree
    obtain ⟨z, hz, ht⟩ := State.takeShard_due hb hk hd hfill hh hm hp hl hroom hfree
    have hpoison : ∀ g r units, t = z.poison k sh.thread now units (some g) r → poisoned g r units := by
      intro g r units h
      have hfacts := State.poison_facts s z k sh.thread now units g r hz.parcels hz.reports
      rw [hz.freeList, ← h] at hfacts
      exact hfacts
    have hcheck : ∀ es : List EarlyEntry, (∀ e ∈ es, e ∈ a.early) → ∀ c, z.checkOver c es = s.checkOver c es :=
      fun es hes c => State.checkOver_congr (fun e he => hz.other _ (hunit e (hes e he))) c
    let joined := fun (run held : List EarlyEntry) =>
      a.extended sh.tag (u :: unitsOf run) (s.checkOver (parcelCheckUpdate a.check sh.payload) run) held
    have hjoined : joins → sh.last = false → ∀ run later, a.early = run ++ later → isRun start sh.tag next run →
        t = z.drain k sh.thread now (joined run later) := by
      intro hj hlast run later hea hrun
      have h := State.placeAndDrain_joins z k sh.thread now (a := a) (e := sh.entry u) hj hlast hd hea hrun
      rw [show (sh.entry u).unit = u from rfl, hz.written, hcheck run (fun e he => by simp [hea, he])] at h
      exact ht.trans h
    have hrecord : ∀ run held, joined run held = { a with
        expected := next + length run, parcelTag := some sh.tag, placed := a.placed ++ u :: unitsOf run,
        check := s.checkOver (parcelCheckUpdate a.check sh.payload) run, early := held } := fun run held => by
      show Assembly.extended _ _ _ _ _ = _
      rw [Assembly.extended_cons, length_unitsOf, ← hd]
    have hexpected : ∀ run held, (joined run held).expected = next + length run := fun run held => by rw [hrecord]
    have hrestarted : ∀ (b : Assembly) (e : EarlyEntry) (c : Assembly),
        t = ((z.restartedFrom sh.thread b e).setSlot k (.assembling sh.thread now c)) →
        t.slot k = .assembling sh.thread now c ∧ t.store.freeList = rest ++ b.placed ∧ restarted := by
      intro b e c h
      obtain ⟨hf, hfr, hr⟩ := State.restartedFrom_facts z sh.thread b e
      show t.slot k = _ ∧ t.store.freeList = _ ∧ t.parcels .framing = _ ∧ t.slotReports = _
      rw [h, State.slot_setSlot_self, State.setSlot_store, State.parcels_setSlot, State.setSlot_slotReports, hf, hfr, hr,
        hz.freeList, hz.parcels, hz.reports]
      exact ⟨rfl, rfl, rfl, rfl⟩
    refine ⟨fun hs hf => ?_, fun hs hf hg => ?_, fun run later hlast hea hdue => ⟨fun hj hrun => ?_, fun hs hf hrun => ?_⟩,
      fun run e more hlast hj hea hrun he hstart => ⟨fun hf hg => ?_, fun behind later hf hel hmore hrun' hdue => ?_⟩⟩
    · exact hpoison _ _ _ (ht.trans (State.placeAndDrain_over z k _ _ a _ (State.placeShard_framing z k _ _ a _ hs hf)))
    · exact hpoison _ _ _ (ht.trans (State.placeAndDrain_over z k _ _ a _ (State.placeShard_tag z k _ _ a _ hs hf hg)))
    · have htz := hjoined hj hlast run later hea hrun
      rw [State.drain_stops z k sh.thread now (joined run later) (by rw [hexpected]; exact hdue), hrecord] at htz
      rw [htz]
      exact ⟨State.slot_setSlot_self _ _ _, hz.freeList, hz.reports⟩
    · have htz := ht.trans (State.placeAndDrain_more z k _ _ a _
        (State.placeShard_restarts z k sh.thread now (a := a) (e := sh.entry u) hs hf hlast))
      rw [State.drain_restarted z k sh.thread now (a := a) (e := sh.entry u) hea hrun,
        State.drain_stops _ k sh.thread now _ hdue, State.checkOver_cons, show (sh.entry u).unit = u from rfl, hz.written,
        hcheck run (fun e he => by simp [hea, he])] at htz
      exact hrestarted a (sh.entry u) _ htz
    · have hplace := State.placeShard_tag z k sh.thread now (joined run more) e hstart hf
        (fun h => hg (Option.some.inj h).symm)
      have htz := (hjoined hj hlast run (e :: more) hea hrun).trans (State.drain_over z k sh.thread now
        (joined run (e :: more)) rfl (he.trans (hexpected run (e :: more)).symm) hplace)
      exact hpoison _ _ _ htz
    · have hplace := State.placeShard_restarts z k sh.thread now (a := joined run more) (e := e) hstart hf hel
      have htz := (hjoined hj hlast run (e :: more) hea hrun).trans (State.drain_more z k sh.thread now
        (joined run (e :: more)) rfl (he.trans (hexpected run (e :: more)).symm) hplace)
      rw [State.drain_restarted z k sh.thread now (a := joined run more) (e := e) hmore hrun',
        State.drain_stops _ k sh.thread now _ hdue, hcheck (e :: behind)] at htz
      · exact hrestarted (joined run more) e _ htz
      · intro f hf
        rcases List.mem_cons.mp hf with rfl | hf
        · simp [hea]
        · simp [hea, hmore, hf]
  · exact State.drain_stops s k x stamp a
  · exact State.drain_over s k x stamp a hea hd hz
  · exact State.drain_more s k x stamp a hea hd hz

end

section
/-! SUPPORT. A scan's visit to one slot: what a release and a reap of a parcel in progress write and leave, and where the cursor goes (05 R84 to R86). -/

namespace Sys2Proof.Machine

/-! ### The release of a slot with a parcel in progress (01 R24, R25) -/

section InProgress

variable {s : State} {k : SlotId} {x : ThreadId} (hb : (s.slot k).busy = true) (ht : (s.slot k).thread = some x)

include hb ht

theorem State.releaseSlot_busy : s.releaseSlot k =
    (((s.returnChain (s.slot k).units).signalParcelEnd x).freeSlot k x).reportSlot := by
  unfold State.releaseSlot
  cases hk : s.slot k with
  | free => simp [hk, Slot.busy] at hb
  | resting t p y => simp [hk, Slot.busy] at hb
  | assembling t p a =>
    obtain rfl : t = x := by simpa [hk, Slot.thread] using ht
    rfl
  | skipping t p g r =>
    obtain rfl : t = x := by simpa [hk, Slot.thread] using ht
    simp only [Slot.units, State.returnChain_nil]

theorem State.releaseSlot_slot_self : (s.releaseSlot k).slot k = .free := by
  rw [State.releaseSlot_busy hb ht, State.slot_reportSlot, State.slot_freeSlot_self]

theorem State.releaseSlot_slot_ne {j : SlotId} (hj : j ≠ k) : (s.releaseSlot k).slot j = s.slot j := by
  rw [State.releaseSlot_busy hb ht, State.slot_reportSlot, State.slot_freeSlot_ne _ _ _ _ hj,
    State.slot_signalParcelEnd, State.slot_returnChain]

theorem State.releaseSlot_thread_self : (s.releaseSlot k).thread x =
    { active := (s.thread x).pending.getD (s.thread x).active, pending := none, binding := none } := by
  rw [State.releaseSlot_busy hb ht, State.thread_reportSlot, State.thread_freeSlot_self,
    State.thread_signalParcelEnd_self, State.thread_returnChain]
  simp

theorem State.releaseSlot_thread_ne {y : ThreadId} (hy : y ≠ x) : (s.releaseSlot k).thread y = s.thread y := by
  rw [State.releaseSlot_busy hb ht, State.thread_reportSlot, State.thread_freeSlot_ne _ _ _ _ hy,
    State.thread_signalParcelEnd_ne _ _ _ hy, State.thread_returnChain]

theorem State.releaseSlot_freeList : (s.releaseSlot k).store.freeList = s.store.freeList ++ (s.slot k).units := by
  rw [State.releaseSlot_busy hb ht, State.reportSlot_store, State.freeSlot_store, State.signalParcelEnd_store,
    State.returnChain_freeList]

theorem State.releaseSlot_slotReports : (s.releaseSlot k).slotReports = s.slotReports + 1 := by
  rw [State.releaseSlot_busy hb ht]
  simp [State.reportSlot]

end InProgress

theorem State.parcels_releaseSlot (s : State) (k : SlotId) (c : ParcelCounter) :
    (s.releaseSlot k).parcels c = s.parcels c := State.parcels_congr _ _ _ (State.releaseSlot_counters s k)

theorem State.drops_releaseSlot (s : State) (k : SlotId) (c : DropCounter) : (s.releaseSlot k).drops c = s.drops c :=
  State.drops_congr _ _ _ (State.releaseSlot_counters s k)

/-! ### The reap (05 R86) -/

/-- What a reap adds to the release of the slot: one count. Every table and the store are as the release leaves them. -/
theorem State.reap_tables (s : State) (k : SlotId) (age : Nat) : (s.reap k age).slots = (s.releaseSlot k).slots ∧
    (s.reap k age).threads = (s.releaseSlot k).threads ∧
    (s.reap k age).store.freeList = (s.releaseSlot k).store.freeList ∧
    (s.reap k age).slotReports = (s.releaseSlot k).slotReports := by
  unfold State.reap
  exact ⟨by simp, by simp, by simp, by simp⟩

/-- What a reap leaves, whatever the slot. -/
theorem State.reap_unchanged (s : State) (k : SlotId) (age : Nat) : (s.reap k age).aging = s.aging ∧
    (s.reap k age).lanes = s.lanes ∧ (s.reap k age).store.octets = s.store.octets ∧ (s.reap k age).mode = s.mode ∧
    (s.reap k age).engine = s.engine := by
  unfold State.reap
  exact ⟨by simp, by simp, by simp, by simp, by simp⟩

theorem State.parcels_reap (s : State) (k : SlotId) (age : Nat) :
    (s.reap k age).parcels .reaped = s.parcels .reaped + 1 := by
  rw [State.reap, State.parcels_settleReturns, State.parcels_raise, State.parcels_bumpParcel_self,
    State.parcels_releaseSlot]

theorem State.drops_reap (s : State) (k : SlotId) (age : Nat) (c : DropCounter) :
    (s.reap k age).drops c = s.drops c := by
  rw [State.reap, State.drops_settleReturns, State.drops_raise, State.drops_bumpParcel, State.drops_releaseSlot]

/-- On a busy link with room, an unmasked REAPED notice joins the tail of the queue (05 R86, 10 R156, R157). -/
theorem State.reap_notices (s : State) (k : SlotId) (age : Nat) (hm : s.ret.noticeMask.getLsbD 1 = true)
    (hn : s.ret.notices.length < 16) (hl : s.ret.onLink.isSome = true) :
    (s.reap k age).ret.notices = s.ret.notices ++ [⟨.reaped, (s.slot k).thread, (s.slot k).noticeTag, none,
      some (BitVec.ofNat 16 age), s.aging.periodNo, s.ret.lostNotices⟩] := by
  have hret : ((s.releaseSlot k).bumpParcel .reaped).ret = s.ret := State.releaseSlot_ret s k
  have hperiod : ((s.releaseSlot k).bumpParcel .reaped).aging = s.aging := State.releaseSlot_aging s k
  have hraise := State.raise_busy ((s.releaseSlot k).bumpParcel .reaped) .reaped (s.slot k).thread (s.slot k).noticeTag
    none (some (BitVec.ofNat 16 age)) (by rw [hret]; exact hl) (by rw [hret]; exact hm) (by rw [hret]; exact hn)
  rw [hret, hperiod] at hraise
  obtain ⟨hsettled, -⟩ := (State.settleReturns_undisturbed (((s.releaseSlot k).bumpParcel .reaped).raise .reaped
    (s.slot k).thread (s.slot k).noticeTag none (some (BitVec.ofNat 16 age)))).busy (by rw [hraise]; exact hl)
  rw [State.reap, hsettled, hraise]

/-- What a reap of slot `k` makes of a state, and what it leaves: the release, one count and one notice with the age. -/
structure State.ReapedTo (s z : State) (k : SlotId) (x : ThreadId) (age : Nat) : Prop where
  slot : z.slot k = .free
  otherSlots : ∀ j, j ≠ k → z.slot j = s.slot j
  thread : z.thread x = { active := (s.thread x).pending.getD (s.thread x).active, pending := none, binding := none }
  otherThreads : ∀ y, y ≠ x → z.thread y = s.thread y
  freeList : z.store.freeList = s.store.freeList ++ (s.slot k).units
  octets : z.store.octets = s.store.octets
  reports : z.slotReports = s.slotReports + 1
  parcels : z.parcels .reaped = s.parcels .reaped + 1
  drops : ∀ c, z.drops c = s.drops c
  notices : s.ret.noticeMask.getLsbD 1 = true → s.ret.notices.length < 16 → s.ret.onLink.isSome = true →
    z.ret.notices = s.ret.notices ++ [⟨.reaped, some x, (s.slot k).noticeTag, none, some (BitVec.ofNat 16 age),
      s.aging.periodNo, s.ret.lostNotices⟩]
  lanes : z.lanes = s.lanes
  mode : z.mode = s.mode
  engine : z.engine = s.engine

theorem State.reap_reapedTo {s : State} {k : SlotId} {x : ThreadId} (hb : (s.slot k).busy = true)
    (ht : (s.slot k).thread = some x) (age : Nat) : s.ReapedTo (s.reap k age) k x age := by
  obtain ⟨hslots, hthreads, hfree, hreports⟩ := State.reap_tables s k age
  obtain ⟨-, hlanes, hoctets, hmode, hengine⟩ := State.reap_unchanged s k age
  have hslot := fun j => State.slot_congr (s.releaseSlot k) (s.reap k age) j hslots
  have hthread := fun y => State.thread_congr (s.releaseSlot k) (s.reap k age) y hthreads
  exact {
    slot := (hslot k).trans (State.releaseSlot_slot_self hb ht)
    otherSlots := fun j hj => (hslot j).trans (State.releaseSlot_slot_ne hb ht hj)
    thread := (hthread x).trans (State.releaseSlot_thread_self hb ht)
    otherThreads := fun y hy => (hthread y).trans (State.releaseSlot_thread_ne hb ht hy)
    freeList := hfree.trans (State.releaseSlot_freeList hb ht)
    octets := hoctets
    reports := hreports.trans (State.releaseSlot_slotReports hb ht)
    parcels := State.parcels_reap s k age
    drops := State.drops_reap s k age
    notices := by rw [← ht]; exact State.reap_notices s k age
    lanes := hlanes
    mode := hmode
    engine := hengine }

/-! ### The cursor and the visit (05 R84, R85) -/

theorem Aging.afterVisit_eq (a : Aging) (k : SlotId) : a.afterVisit k =
    if k.val < 95 then { a with cursor := some (Fin.ofNat 96 (k.val + 1)) }
    else if a.expiryPending = true then { a with cursor := some 0, expiryPending := false }
    else { a with cursor := none } := by
  unfold Aging.afterVisit
  by_cases hk : k.val < 95
  · have hnext : (⟨k.val + 1, by omega⟩ : SlotId) = Fin.ofNat 96 (k.val + 1) :=
      Fin.ext (Nat.mod_eq_of_lt (by omega)).symm
    rw [dif_pos (by omega), if_pos hk, hnext]
  · rw [dif_neg (by omega), if_neg hk]

/-- A visit leaves the aging registers for the cursor to move on from. -/
theorem State.visit_aging (s : State) (k : SlotId) : (s.visit k).aging = s.aging := by
  have hreap : ∀ t p, (s.reapIfOld k t p).aging = s.aging := fun t p => by
    unfold State.reapIfOld
    split
    · exact (State.reap_unchanged s k _).1
    · rfl
  unfold State.visit
  split
  · rfl
  · rfl
  · exact hreap _ _
  · exact hreap _ _

theorem State.visit_free {s : State} {k : SlotId} (h : s.slot k = .free) : s.visit k = s := by
  simp [State.visit, h]

theorem State.visit_resting {s : State} {k : SlotId} {t : ThreadId} {p : PeriodNo} {x : Seq}
    (h : s.slot k = .resting t p x) : s.visit k = s := by
  simp [State.visit, h]

theorem State.visit_assembling {s : State} {k : SlotId} {t : ThreadId} {p : PeriodNo} {a : Assembly}
    (h : s.slot k = .assembling t p a) : s.visit k = s.reapIfOld k t p := by
  simp [State.visit, h]

theorem State.visit_skipping {s : State} {k : SlotId} {t : ThreadId} {p : PeriodNo} {g : Option Tag} {r : PoisonReason}
    (h : s.slot k = .skipping t p g r) : s.visit k = s.reapIfOld k t p := by
  simp [State.visit, h]

theorem State.reapIfOld_young {s : State} {k : SlotId} {t : ThreadId} {p : PeriodNo}
    (h : (s.aging.periodNo - p).toNat < (s.thread t).active.timeout) : s.reapIfOld k t p = s :=
  if_neg (Nat.not_le.mpr h)

theorem State.reapIfOld_old {s : State} {k : SlotId} {t : ThreadId} {p : PeriodNo}
    (h : (s.thread t).active.timeout ≤ (s.aging.periodNo - p).toNat) :
    s.reapIfOld k t p = s.reap k (s.aging.periodNo - p).toNat := if_pos h

theorem exec_scanVisit_idle {s : State} (h : s.aging.cursor = none) : exec .scanVisit s = .next s := by
  show execScanVisit s = _
  simp [execScanVisit, h]

theorem exec_scanVisit {s : State} {k : SlotId} (h : s.aging.cursor = some k) :
    exec .scanVisit s = .next { s.visit k with aging := s.aging.afterVisit k } := by
  show execScanVisit s = _
  simp [execScanVisit, h, State.visit_aging]

end Sys2Proof.Machine

open Sys2Proof Sys2Proof.Machine

/-- Settles O44: a visit passes a slot over or reaps it, and the cursor moves on either way. -/
theorem scanVisitReapsByAge : Obligations.ScanVisitReapsByAge := by
  refine fun s => ⟨exec_scanVisit_idle, ?_⟩
  intro k hcursor after passed reaped
  have hafter : s.aging.afterVisit k = after := Aging.afterVisit_eq s.aging k
  have hexec := exec_scanVisit hcursor
  rw [hafter] at hexec
  have hpassed : s.visit k = s → passed := fun h => by rw [h] at hexec; exact hexec
  have hreaped : ∀ x p, (s.slot k).busy = true → (s.slot k).thread = some x →
      s.visit k = s.reap k (s.aging.periodNo - p).toNat → reaped x p (s.slot k).units (s.slot k).noticeTag := by
    intro x p hb ht hvisit
    have hz := State.reap_reapedTo hb ht (s.aging.periodNo - p).toNat
    rw [← hvisit] at hz
    generalize s.visit k = z at hz hexec
    have hnotices := hz.notices
    rw [BitVec.ofNat_toNat, BitVec.setWidth_eq] at hnotices
    exact ⟨{ z with aging := after }, hexec, rfl, hz.slot, hz.thread, hz.freeList, hz.parcels, hz.reports, hnotices,
      hz.otherSlots, hz.otherThreads, hz.lanes, hz.octets, hz.mode, hz.engine, hz.drops⟩
  refine ⟨fun hk => hpassed (State.visit_free hk), fun x p e hk => hpassed (State.visit_resting hk),
    fun x p a hk => ⟨fun hyoung => ?_, fun _ hold => ?_⟩, fun x p g r hk => ⟨fun hyoung => ?_, fun _ hold => ?_⟩⟩
  · exact hpassed ((State.visit_assembling hk).trans (State.reapIfOld_young hyoung))
  · have h := hreaped x p (by rw [hk]; rfl) (by rw [hk]; rfl) ((State.visit_assembling hk).trans (State.reapIfOld_old hold))
    rw [hk] at h
    exact h
  · exact hpassed ((State.visit_skipping hk).trans (State.reapIfOld_young hyoung))
  · have h := hreaped x p (by rw [hk]; rfl) (by rw [hk]; rfl) ((State.visit_skipping hk).trans (State.reapIfOld_old hold))
    rw [hk] at h
    exact h

end

section
/-! SUPPORT. Poisons and parcel ends: what a poison leaves, what dropping held entries writes, and the slot RESTING or FREE behind a parcel end, each end of a parcel and of a skip an equation (02 R39, R42, R44 to R46, 03 R56, R57). -/

namespace Sys2Proof.Machine

/-! ### What a poison leaves (02 R42) -/

theorem State.slot_poison_ne (s : State) (k j : SlotId) (t : ThreadId) (stamp : PeriodNo) (held : List UnitNo)
    (g : Option Tag) (r : PoisonReason) (h : j ≠ k) : (s.poison k t stamp held g r).slot j = s.slot j := by
  rw [State.poison, State.slot_setSlot_ne _ _ _ _ h]
  simp

/-- A poison changes no count of parcels but that of its reason. -/
theorem State.parcels_poison_ne (s : State) (k : SlotId) (t : ThreadId) (stamp : PeriodNo) (held : List UnitNo)
    (g : Option Tag) (r : PoisonReason) (c : ParcelCounter) (h : c ≠ r.counter) :
    (s.poison k t stamp held g r).parcels c = s.parcels c := by
  rw [State.poison, State.parcels_setSlot, State.parcels_bumpParcel_ne _ _ _ h]
  simp

/-! ### Held entries dropped (02 R39, R41, 03 R57) -/

/-- What dropping shards makes of a state: units returned and drops counted; no table, lane, report or parcel count is
touched. -/
structure State.DroppedTo (s z : State) (c : DropCounter) (units : List UnitNo) (n : Nat) : Prop where
  freeList : z.store.freeList = s.store.freeList ++ units
  octets : z.store.octets = s.store.octets
  drops : z.drops c = s.drops c + BitVec.ofNat 32 n
  parcels : z.counters.parcels = s.counters.parcels
  slots : z.slots = s.slots
  threads : z.threads = s.threads
  lanes : z.lanes = s.lanes
  reports : z.slotReports = s.slotReports

theorem State.DroppedTo.trans {s u z : State} {c : DropCounter} {units more : List UnitNo} {n m : Nat}
    (h : s.DroppedTo u c units n) (h' : u.DroppedTo z c more m) : s.DroppedTo z c (units ++ more) (n + m) where
  freeList := by rw [h'.freeList, h.freeList, List.append_assoc]
  octets := h'.octets.trans h.octets
  drops := by rw [h'.drops, h.drops, BitVec.ofNat_add, BitVec.add_assoc]
  parcels := h'.parcels.trans h.parcels
  slots := h'.slots.trans h.slots
  threads := h'.threads.trans h.threads
  lanes := h'.lanes.trans h.lanes
  reports := h'.reports.trans h.reports

theorem State.returnChain_droppedTo (s : State) (c : DropCounter) (units : List UnitNo) :
    s.DroppedTo (s.returnChain units) c units 0 := by
  refine ⟨?_, ?_, ?_, ?_, ?_, ?_, ?_, ?_⟩ <;> simp

theorem State.bumpDrop_droppedTo (s : State) (c : DropCounter) : s.DroppedTo (s.bumpDrop c) c [] 1 := by
  refine ⟨?_, ?_, ?_, ?_, ?_, ?_, ?_, ?_⟩ <;> simp

theorem State.dropOrphan_droppedTo (s : State) (t : ThreadId) : s.DroppedTo (s.dropOrphan t) .orphan [] 1 := by
  have hbump := s.bumpDrop_droppedTo .orphan
  unfold State.dropOrphan
  dsimp only
  split
  · refine hbump.trans (units := []) (more := []) (m := 0) ⟨?_, ?_, ?_, ?_, ?_, ?_, ?_, ?_⟩ <;> simp [State.drops]
  · exact ⟨hbump.freeList, hbump.octets, hbump.drops, hbump.parcels, hbump.slots, hbump.threads, hbump.lanes,
      hbump.reports⟩

/-- Entries dropped one by one, behind the return of their units. -/
theorem State.foldl_droppedTo {f : State → EarlyEntry → State} {c : DropCounter}
    (hf : ∀ z e, State.DroppedTo z (f z e) c [] 1) {s z : State} {units : List UnitNo} {n : Nat}
    (h : s.DroppedTo z c units n) (es : List EarlyEntry) : s.DroppedTo (es.foldl f z) c units (n + es.length) := by
  induction es generalizing z n with
  | nil => exact h
  | cons e es ih =>
    have hone := h.trans (hf z e)
    rw [List.append_nil] at hone
    have hrest := ih hone
    rwa [Nat.add_assoc, Nat.add_comm 1] at hrest

theorem State.dropEntries_droppedTo (s : State) (es : List EarlyEntry) (c : DropCounter) :
    s.DroppedTo (s.dropEntries es c) c (unitsOf es) es.length := by
  have h := State.foldl_droppedTo (fun z _ => z.bumpDrop_droppedTo c) (s.returnChain_droppedTo c (unitsOf es)) es
  rwa [Nat.zero_add] at h

theorem State.orphanEntries_droppedTo (s : State) (t : ThreadId) (es : List EarlyEntry) :
    s.DroppedTo (s.orphanEntries t es) .orphan (unitsOf es) es.length := by
  have h := State.foldl_droppedTo (fun z _ => z.dropOrphan_droppedTo t) (s.returnChain_droppedTo .orphan (unitsOf es)) es
  rwa [Nat.zero_add] at h

@[simp] theorem State.orphanEntries_nil (s : State) (t : ThreadId) : s.orphanEntries t [] = s := s.returnChain_nil

/-! ### The slot behind a parcel end (02 R39 steps 3 and 4, R45) -/

/-- A parcel end that leaves no parcel in progress: the slot RESTING where the thread's configuration is an enabled retain
one, otherwise FREE and the thread unbound; reported either way. -/
def State.restOrFree (s : State) (k : SlotId) (t : ThreadId) (stamp : PeriodNo) (x : Seq) : State :=
  if (s.thread t).active.retain && (s.thread t).active.enabled then (s.setSlot k (.resting t stamp x)).reportSlot
  else (s.freeSlot k t).reportSlot

section RestOrFree

variable (s : State) (k : SlotId) (t : ThreadId) (stamp : PeriodNo) (x : Seq)

theorem State.restOrFree_rests (hr : (s.thread t).active.retain = true) (he : (s.thread t).active.enabled = true) :
    s.restOrFree k t stamp x = (s.setSlot k (.resting t stamp x)).reportSlot := by
  simp [State.restOrFree, hr, he]

theorem State.restOrFree_frees (h : (s.thread t).active.retain = false ∨ (s.thread t).active.enabled = false) :
    s.restOrFree k t stamp x = (s.freeSlot k t).reportSlot := by
  rcases h with h | h <;> simp [State.restOrFree, h]

@[simp] theorem State.restOrFree_store : (s.restOrFree k t stamp x).store = s.store := by
  unfold State.restOrFree; split <;> rfl

@[simp] theorem State.restOrFree_lanes : (s.restOrFree k t stamp x).lanes = s.lanes := by
  unfold State.restOrFree; split <;> rfl

@[simp] theorem State.restOrFree_counters : (s.restOrFree k t stamp x).counters = s.counters := by
  unfold State.restOrFree; split <;> rfl

@[simp] theorem State.restOrFree_slotReports : (s.restOrFree k t stamp x).slotReports = s.slotReports + 1 := by
  unfold State.restOrFree; split <;> rfl

theorem State.slot_restOrFree_ne {j : SlotId} (h : j ≠ k) : (s.restOrFree k t stamp x).slot j = s.slot j := by
  unfold State.restOrFree
  split
  · rw [State.slot_reportSlot, State.slot_setSlot_ne _ _ _ _ h]
  · rw [State.slot_reportSlot, State.slot_freeSlot_ne _ _ _ _ h]

/-- The thread's configurations are those in force before. -/
theorem State.thread_restOrFree_config : ((s.restOrFree k t stamp x).thread t).active = (s.thread t).active ∧
    ((s.restOrFree k t stamp x).thread t).pending = (s.thread t).pending := by
  unfold State.restOrFree
  split
  · exact ⟨rfl, rfl⟩
  · simp

/-- The record of the slot and the thread's binding, by the configuration in force. -/
theorem State.restOrFree_ends :
    ((s.thread t).active.retain = true → (s.thread t).active.enabled = true →
      (s.restOrFree k t stamp x).slot k = .resting t stamp x ∧
        ((s.restOrFree k t stamp x).thread t).binding = (s.thread t).binding) ∧
    ((s.thread t).active.retain = false ∨ (s.thread t).active.enabled = false →
      (s.restOrFree k t stamp x).slot k = .free ∧ ((s.restOrFree k t stamp x).thread t).binding = none) := by
  refine ⟨fun hr he => ?_, fun h => ?_⟩
  · rw [s.restOrFree_rests k t stamp x hr he]
    exact ⟨by simp, rfl⟩
  · rw [s.restOrFree_frees k t stamp x h]
    exact ⟨by simp, by simp⟩

end RestOrFree

/-! ### The end of a parcel, row by row (02 R39 to R41, 03 R56, R57) -/

theorem State.setThread_thread (s : State) (t : ThreadId) : s.setThread t (s.thread t) = s := by
  simp [State.setThread, State.thread]

/-- Without a pending configuration the parcel-end signal changes nothing (03 R56). -/
theorem State.signalParcelEnd_none {s : State} {t : ThreadId} (h : (s.thread t).pending = none) :
    s.signalParcelEnd t = s := by
  have he : (s.thread t).endParcel = s.thread t := by simp [ThreadEntry.endParcel, h]
  rw [State.signalParcelEnd, he, State.setThread_thread]

section FinishParcel

variable (s : State) (k : SlotId) (t : ThreadId) (stamp : PeriodNo) (x : Seq) (held : List EarlyEntry)

/-- A pending configuration comes into force, and displaces every entry held (03 R56, R57). -/
theorem State.finishParcel_displaces {c : ThreadConfig} (hp : (s.thread t).pending = some c) :
    s.finishParcel k t stamp x held =
      .over (((s.signalParcelEnd t).dropEntries held .displaced).restOrFree k t stamp x) := by
  simp only [State.finishParcel, hp, Option.isSome_some, if_true, State.orphanEntries_nil, State.restOrFree]
  split <;> rfl

variable (hp : (s.thread t).pending = none)

include hp

theorem State.finishParcel_empty : s.finishParcel k t stamp x [] = .over (s.restOrFree k t stamp x) := by
  simp only [State.finishParcel, hp, State.signalParcelEnd_none hp, Option.isSome_none, Bool.false_eq_true, if_false,
    if_true, State.orphanEntries_nil, State.restOrFree]
  split <;> rfl

theorem State.finishParcel_orphans (h : ((s.thread t).active.retain && (s.thread t).active.enabled) = false) :
    s.finishParcel k t stamp x held = .over ((s.orphanEntries t held).restOrFree k t stamp x) := by
  simp [State.finishParcel, hp, State.signalParcelEnd_none hp, h, State.restOrFree]

variable (hr : ((s.thread t).active.retain && (s.thread t).active.enabled) = true) (hne : held ≠ [])

include hr hne

theorem State.finishParcel_closing (hm : s.mode = .closing) :
    s.finishParcel k t stamp x held = .over ((s.dropEntries held .notRunning).restOrFree k t stamp x) := by
  simp [State.finishParcel, hp, State.signalParcelEnd_none hp, hr, hne, hm, State.restOrFree]

theorem State.finishParcel_next (hm : s.mode ≠ .closing) :
    s.finishParcel k t stamp x held = s.nextParcel k t stamp x held := by
  simp [State.finishParcel, hp, State.signalParcelEnd_none hp, hr, hne, hm]

end FinishParcel

/-! ### SKIPPING (02 R44 to R46) -/

theorem State.takeShard_skipping (s : State) (sh : DataShard) (k : SlotId) (t : ThreadId) (p : PeriodNo)
    (g : Option Tag) (r : PoisonReason) (h : (s.thread sh.thread).binding = some k)
    (hk : s.slot k = .skipping t p g r) :
    s.takeShard sh = (s.setSlot k (.skipping t s.aging.periodNo g r)).judgeSkipping k g sh := by
  simp [State.takeShard, State.boundSlot, h, hk, Slot.restamp]

/-- A skip that ends by an L leaves its slot as a parcel end does (02 R45). -/
theorem State.endSkip_eq (s : State) (k : SlotId) (t : ThreadId) (x : Seq) :
    s.endSkip k t x = (s.signalParcelEnd t).restOrFree k t s.aging.periodNo x := rfl

section Skipping

variable (s : State) (k : SlotId) (sh : DataShard)

theorem State.judgeSkipping_tagged_last (hl : sh.last = true) : s.judgeSkipping k (some sh.tag) sh =
    ((s.bumpDrop .skipped).signalParcelEnd sh.thread).restOrFree k sh.thread s.aging.periodNo (sh.seq + 1) := by
  simp [State.judgeSkipping, hl, State.endSkip_eq]

theorem State.judgeSkipping_tagged (hl : sh.last = false) :
    s.judgeSkipping k (some sh.tag) sh = s.bumpDrop .skipped := by
  simp [State.judgeSkipping, hl]

theorem State.judgeSkipping_other (g : Option Tag) (hg : g ≠ some sh.tag) (hf : sh.first = false)
    (h : g ≠ none ∨ sh.last = false) : s.judgeSkipping k g sh = s.bumpDrop .skipped := by
  have hstay : ¬ (g = none ∧ sh.last = true) := by
    rintro ⟨hn, hl⟩
    simp [hn, hl] at h
  simp only [State.judgeSkipping, hg, hf, hstay, if_false, Bool.false_eq_true]

theorem State.judgeSkipping_untagged_last (hf : sh.first = false) (hl : sh.last = true) : s.judgeSkipping k none sh =
    ((s.bumpDrop .skipped).signalParcelEnd sh.thread).restOrFree k sh.thread s.aging.periodNo (sh.seq + 1) := by
  simp [State.judgeSkipping, hf, hl, State.endSkip_eq]

/-- A skip that ends at a shard carrying F: the poisoned parcel ends, and the shard starts one of its own (02 R46). -/
theorem State.judgeSkipping_starts (g : Option Tag) (hg : g ≠ some sh.tag) (hf : sh.first = true)
    (he : ((s.thread sh.thread).pending.getD (s.thread sh.thread).active).enabled = true) :
    s.judgeSkipping k g sh = (s.signalParcelEnd sh.thread).startParcel k sh := by
  simp [State.judgeSkipping, State.endSkipOnF, hg, hf, he]

theorem State.judgeSkipping_disabled (g : Option Tag) (hg : g ≠ some sh.tag) (hf : sh.first = true)
    (he : ((s.thread sh.thread).pending.getD (s.thread sh.thread).active).enabled = false) : s.judgeSkipping k g sh =
      (((s.signalParcelEnd sh.thread).freeSlot k sh.thread).reportSlot).bumpDrop .disabled := by
  simp [State.judgeSkipping, State.endSkipOnF, hg, hf, he]

end Skipping

end Sys2Proof.Machine

open Sys2Proof Sys2Proof.Machine

/-- Settles O32, from what a poison writes and leaves. -/
theorem poisonReturnsEverythingHeld : Obligations.PoisonReturnsEverythingHeld := by
  intro s k x stamp held g r t
  exact ⟨State.poison_freeList s k x stamp held g r, State.slot_poison_self s k x stamp held g r,
    State.parcels_poison_self s k x stamp held g r, rfl, fun j hj => State.slot_poison_ne s k j x stamp held g r hj,
    State.poison_threads s k x stamp held g r, State.poison_lanes s k x stamp held g r,
    State.poison_slotReports s k x stamp held g r, State.poison_octets s k x stamp held g r,
    State.poison_orphanTally s k x stamp held g r⟩

/-- Settles O31: the entries dropped behind the signal, then the slot by the configuration now in force. -/
theorem pendingConfigurationDisplacesHeldEntries : Obligations.PendingConfigurationDisplacesHeldEntries := by
  intro s k x stamp expected held c hc
  let signalled := s.signalParcelEnd x
  let dropped := signalled.dropEntries held .displaced
  have hd : signalled.DroppedTo dropped .displaced (unitsOf held) held.length :=
    State.dropEntries_droppedTo signalled held .displaced
  have hthread : dropped.thread x = (s.thread x).endParcel := by simp [dropped, signalled]
  have hactive : (dropped.thread x).active = c := by rw [hthread, ThreadEntry.endParcel_active, hc]; rfl
  have hconfig := dropped.thread_restOrFree_config k x stamp expected
  obtain ⟨hrests, hfrees⟩ := dropped.restOrFree_ends k x stamp expected
  rw [hactive] at hrests hfrees hconfig
  refine ⟨dropped.restOrFree k x stamp expected, s.finishParcel_displaces k x stamp expected held hc, ?_, ?_,
    hconfig.1, ?_, ?_, fun ⟨hr, he⟩ => (hrests hr he).1, hfrees, fun j hj => ?_, ?_, ?_⟩
  · rw [State.restOrFree_store]
    exact hd.freeList
  · rw [State.drops_congr dropped _ _ (dropped.restOrFree_counters k x stamp expected)]
    exact hd.drops
  · rw [hconfig.2, hthread, ThreadEntry.endParcel_pending]
  · rw [State.restOrFree_slotReports, hd.reports]
    rfl
  · rw [State.slot_restOrFree_ne _ _ _ _ _ hj, State.slot_congr signalled dropped j hd.slots]
    rfl
  · rw [State.restOrFree_lanes]
    exact hd.lanes
  · rw [State.restOrFree_store]
    exact hd.octets

/-- Settles O33, row by row of the table of 02 R44. -/
theorem skippingSlotJudgesByTagAndMarks : Obligations.SkippingSlotJudgesByTagAndMarks := by
  intro s sh k t₀ p₀ g r hb hk cfg now t inForce stays ends
  let stamped := s.setSlot k (.skipping t₀ now g r)
  let signalled := stamped.signalParcelEnd sh.thread
  have ht : t = stamped.judgeSkipping k g sh := State.takeShard_skipping s sh k t₀ p₀ g r hb hk
  have hsignalled : signalled.thread sh.thread = (s.thread sh.thread).endParcel :=
    State.thread_signalParcelEnd_self stamped sh.thread
  have hcfg : (signalled.thread sh.thread).active = cfg := by rw [hsignalled, ThreadEntry.endParcel_active]
  have hforce : (t.thread sh.thread).active = (signalled.thread sh.thread).active ∧
      (t.thread sh.thread).pending = (signalled.thread sh.thread).pending → inForce := by
    rintro ⟨ha, hp⟩
    exact ⟨ha.trans hcfg, by rw [hp, hsignalled, ThreadEntry.endParcel_pending]⟩
  have hends : t = ((stamped.bumpDrop .skipped).signalParcelEnd sh.thread).restOrFree k sh.thread now (sh.seq + 1) →
      ends := by
    intro h
    let u := (stamped.bumpDrop .skipped).signalParcelEnd sh.thread
    have hu : u.thread sh.thread = signalled.thread sh.thread :=
      (State.thread_signalParcelEnd_self (stamped.bumpDrop .skipped) sh.thread).trans hsignalled.symm
    have hconfig := u.thread_restOrFree_config k sh.thread now (sh.seq + 1)
    obtain ⟨hrests, hfrees⟩ := u.restOrFree_ends k sh.thread now (sh.seq + 1)
    rw [← h, hu] at hconfig
    rw [← h, hu, hcfg] at hrests hfrees
    refine ⟨?_, ?_, hforce hconfig, fun ⟨hr, he⟩ => (hrests hr he).1, hfrees⟩
    · rw [h, State.drops_congr u _ _ (u.restOrFree_counters k sh.thread now (sh.seq + 1))]
      exact State.drops_bumpDrop_self stamped .skipped
    · rw [h, State.restOrFree_slotReports]
      rfl
  refine ⟨fun hg hl => ?_, fun hg hl => ?_, fun hg hs hf => ?_, fun hg hf hl => ?_, fun hg hf hl => ?_,
    fun u rest hg hf hl he hroom hfree => ?_, fun hg hf he => ?_⟩
  · subst hg
    exact hends (ht.trans (stamped.judgeSkipping_tagged_last k sh hl))
  · subst hg
    exact ht.trans (stamped.judgeSkipping_tagged k sh hl)
  · exact ht.trans (stamped.judgeSkipping_other k sh g hg hf (.inl (Option.isSome_iff_ne_none.mp hs)))
  · subst hg
    exact hends (ht.trans (stamped.judgeSkipping_untagged_last k sh hf hl))
  · exact ht.trans (stamped.judgeSkipping_other k sh g (by rw [hg]; nofun) hf (.inr hl))
  · let z := (signalled.takeUnit cfg.cls sh.payload u rest).judgeRise cfg.cls
    have hclaim : signalled.claim (signalled.thread sh.thread).active.cls sh.payload = .taken u z := by
      rw [hcfg]
      exact State.claim_success signalled cfg.cls sh.payload u rest hroom hfree
    have htz := ht.trans ((stamped.judgeSkipping_starts k sh g hg hf he).trans
      (State.startParcel_taken signalled z k sh u hclaim hf hl))
    have hz := State.claim_tables signalled z _ _ u hclaim
    refine ⟨⟨_, by rw [htz, State.slot_setSlot_self]; rfl⟩, ?_, ?_, hforce ?_⟩
    · rw [htz, State.setSlot_slotReports, State.judgeRise_slotReports]
      rfl
    · rw [htz, State.drops_setSlot, State.drops_judgeRise]
      rfl
    · rw [htz, State.thread_setSlot, State.thread_congr signalled z _ hz.2]
      exact ⟨rfl, rfl⟩
  · have htd := ht.trans (stamped.judgeSkipping_disabled k sh g hg hf he)
    have hinForce : inForce := hforce (by rw [htd]; simp [signalled])
    rw [htd]
    exact ⟨by simp, by simp, hinForce, State.drops_bumpDrop_self _ _, rfl, rfl⟩

end

section
/-! SUPPORT. What the end of a parcel leaves beside its own slot, and a placement carried through to the end of its drain (01 R16, R17, 02 R39). -/

namespace Sys2Proof.Machine

/-! ### The other slots -/

/-- The state a placement leaves, its drain still to go on or not. -/
def Placed.state : Placed → State
  | .over z => z
  | .more _ z => z

theorem State.slot_nextParcel_ne (s : State) (k : SlotId) (t : ThreadId) (stamp : PeriodNo) (x : Seq)
    (held : List EarlyEntry) {j : SlotId} (hj : j ≠ k) : (s.nextParcel k t stamp x held).state.slot j = s.slot j := by
  unfold State.nextParcel
  split
  · rfl
  · exact State.slot_poison_ne s k j t stamp _ _ _ hj

theorem State.slot_finishParcel_ne (s : State) (k : SlotId) (t : ThreadId) (stamp : PeriodNo) (x : Seq)
    (held : List EarlyEntry) {j : SlotId} (hj : j ≠ k) :
    (s.finishParcel k t stamp x held).state.slot j = s.slot j := by
  have hover : ∀ w : State, w.slots = s.slots → (w.restOrFree k t stamp x).slot j = s.slot j := fun w hw => by
    rw [State.slot_restOrFree_ne _ _ _ _ _ hj, State.slot_congr s w j hw]
  cases hp : (s.thread t).pending with
  | some c =>
    rw [s.finishParcel_displaces k t stamp x held hp]
    exact hover _ (by simp)
  | none =>
    cases hr : (s.thread t).active.retain && (s.thread t).active.enabled with
    | false =>
      rw [s.finishParcel_orphans k t stamp x held hp hr]
      exact hover _ (by simp)
    | true =>
      by_cases hne : held = []
      · rw [hne, s.finishParcel_empty k t stamp x hp]
        exact hover _ rfl
      · by_cases hm : s.mode = .closing
        · rw [s.finishParcel_closing k t stamp x held hp hr hne hm]
          exact hover _ (by simp)
        · rw [s.finishParcel_next k t stamp x held hp hr hne hm]
          exact s.slot_nextParcel_ne k t stamp x held hj

theorem State.slot_placePassed_ne (s : State) (k : SlotId) (t : ThreadId) (stamp : PeriodNo) (a : Assembly)
    (e : EarlyEntry) {j : SlotId} (hj : j ≠ k) : (s.placePassed k t stamp a e).state.slot j = s.slot j := by
  unfold State.placePassed
  dsimp only
  split
  · rw [State.slot_finishParcel_ne _ _ _ _ _ _ hj]
    exact State.slot_congr _ _ _ (State.sealParcel_slots s t _ e)
  · rfl

theorem State.slot_placeShard_ne (s : State) (k : SlotId) (t : ThreadId) (stamp : PeriodNo) (a : Assembly)
    (e : EarlyEntry) {j : SlotId} (hj : j ≠ k) : (s.placeShard k t stamp a e).state.slot j = s.slot j := by
  unfold State.placeShard
  dsimp only
  split
  · split
    · exact State.slot_placePassed_ne s k t stamp _ e hj
    · exact State.slot_poison_ne s k j t stamp _ _ _ hj
  · split
    · rw [State.slot_placePassed_ne _ _ _ _ _ _ hj]
      exact State.slot_congr _ _ _ (State.restartParcel_slots s t a e _)
    · split
      · exact State.slot_placePassed_ne s k t stamp a e hj
      · exact State.slot_poison_ne s k j t stamp _ _ _ hj

/-- The drain writes no slot but its own (01 R17). -/
theorem State.slot_drainEarly_ne (k : SlotId) (t : ThreadId) (stamp : PeriodNo) (n : Nat) (a : Assembly) (s : State)
    {j : SlotId} (hj : j ≠ k) : (State.drainEarly k t stamp n a s).slot j = s.slot j := by
  have hstop : (s.setSlot k (.assembling t stamp a)).slot j = s.slot j := State.slot_setSlot_ne _ _ _ _ hj
  induction n generalizing a s with
  | zero => exact hstop
  | succ n ih =>
    unfold State.drainEarly
    split
    · exact hstop
    · next e rest _ =>
      split
      · have hplace := s.slot_placeShard_ne k t stamp { a with early := rest } e hj
        split
        · next z hz => rw [hz] at hplace; exact hplace
        · next b z hz =>
          rw [hz] at hplace
          exact (ih b z (State.slot_setSlot_ne _ _ _ _ hj)).trans hplace
      · exact hstop

/-! ### A placement and the drain behind it -/

/-- The state a placement comes to, the drain of its early list included (01 R16, R17). -/
def Placed.drained (p : Placed) (k : SlotId) (t : ThreadId) (stamp : PeriodNo) : State :=
  match p with
  | .over z => z
  | .more b z => z.drain k t stamp b

theorem Placed.slot_drained_ne (p : Placed) (k : SlotId) (t : ThreadId) (stamp : PeriodNo) {j : SlotId} (hj : j ≠ k) :
    (p.drained k t stamp).slot j = p.state.slot j := by
  rcases p with z | ⟨b, z⟩
  · rfl
  · exact State.slot_drainEarly_ne k t stamp _ b z hj

theorem State.placeAndDrain_eq_drained (s : State) (k : SlotId) (t : ThreadId) (stamp : PeriodNo) (a : Assembly)
    (e : EarlyEntry) : s.placeAndDrain k t stamp a e = (s.placeShard k t stamp a e).drained k t stamp := by
  rcases h : s.placeShard k t stamp a e with z | ⟨b, z⟩
  · exact s.placeAndDrain_over k t stamp a e h
  · exact s.placeAndDrain_more k t stamp a e h

/-- A due entry at the head of the early list is placed, and the drain goes on behind it. -/
theorem State.drain_eq_drained (s : State) (k : SlotId) (t : ThreadId) (stamp : PeriodNo) (a : Assembly)
    {e : EarlyEntry} {rest : List EarlyEntry} (hea : a.early = e :: rest) (hd : e.seq = a.expected) :
    s.drain k t stamp a = (s.placeShard k t stamp { a with early := rest } e).drained k t stamp := by
  rcases h : s.placeShard k t stamp { a with early := rest } e with z | ⟨b, z⟩
  · exact s.drain_over k t stamp a hea hd h
  · exact s.drain_more k t stamp a hea hd h

/-- A shard that joins passes the placement checks, and its tag is the parcel's (02 R27, R29). -/
theorem State.placeShard_passed_of_joins (s : State) (k : SlotId) (t : ThreadId) (stamp : PeriodNo) {a : Assembly}
    {e : EarlyEntry} (h : e.joins a) :
    s.placeShard k t stamp a e = s.placePassed k t stamp { a with parcelTag := some e.tag } e := by
  rcases h with ⟨hs, hf⟩ | ⟨hs, hf, hg⟩
  · exact State.placeShard_start s k t stamp a e hs hf
  · rw [State.placeShard_joins s k t stamp a e hs hf hg, ← hg]

end Sys2Proof.Machine

end

section
/-! SUPPORT. The placement of an L, step by step: the parcel sealed into its lane or discarded, then its end by the entries held and the configuration, then the next parcel of a retain thread (02 R34 to R41, 06 R93). -/

namespace Sys2Proof.Machine

/-! ### The append to a lane (06 R93 to R95, R99) -/

theorem Lane.append_appended (l : Lane) (d : Descriptor) : l.appended (l.append d) d := by
  refine ⟨fun h => if_neg h, fun hi hq => ?_⟩
  have happend : l.append d = { l with queue := l.queue ++ [d] }.judgeHead false := if_pos hi
  have hhead : { l with queue := l.queue ++ [d] }.queue = [d] := by simp [hq]
  refine ⟨fun hc => ?_, fun hc => ?_⟩
  · rw [happend, Lane.judgeHead_starts _ false d [] hhead hc]
    rfl
  · rw [happend, Lane.judgeHead_waits _ false d [] hhead hc (.inl (by simp [hi]))]
    simp [Lane.wait, hq]

/-! ### Before the seal -/

/-- The state in which the L of a completion is placed, seen from the state the shard found: its unit is claimed and its
slot and thread stand as the completion says; what the completion reads besides is as it was. -/
structure Completion.Preceded (c : Completion) (s z : State) : Prop where
  lanes : z.lanes = s.lanes
  aging : z.aging = s.aging
  mode : z.mode = s.mode
  reports : z.slotReports = s.slotReports
  parcels : ∀ p, z.parcels p = s.parcels p
  drops : ∀ d, d ≠ .evictions → z.drops d = s.drops d
  slots : ∀ j, j ≠ c.slot → z.slot j = s.slot j
  freeList : z.store.freeList = c.free
  entry : z.thread c.thread = { active := c.config, pending := c.pending, binding := some c.slot }
  held : ∀ e ∈ c.held, z.unitOctets e.unit = s.unitOctets e.unit

/-- The parcel and the L that a completion speaks of, in the state of the placement. -/
structure Completion.Carries (c : Completion) (z : State) (a : Assembly) (e : EarlyEntry) : Prop where
  last : e.last = true
  fill : e.fill = c.fill
  payload : z.unitOctets e.unit = c.payload
  tag : a.parcelTag = some c.tag
  units : a.placed ++ [e.unit] = c.units
  check : a.check = c.check
  expected : a.expected + 1 = c.expected
  held : a.early = c.held

theorem Completion.Carries.trailerMatches_iff {c : Completion} {z : State} {a : Assembly} {e : EarlyEntry}
    (h : c.Carries z a e) : z.trailerMatches c.config.verify (z.appendShard a e).check e = true ↔ c.passes := by
  simp only [State.trailerMatches, State.appendShard, State.checkedOctets, State.trailer, h.last, h.fill, h.payload,
    h.check, if_true, Bool.or_eq_true, Bool.not_eq_true', beq_iff_eq]
  rfl

theorem Completion.Carries.descriptor_eq {c : Completion} {s z : State} {a : Assembly} {e : EarlyEntry}
    (h : c.Carries z a e) (hz : c.Preceded s z) :
    z.descriptor c.thread c.config (z.appendShard a e) e.fill = c.descriptor s.aging.periodNo := by
  simp [State.descriptor, State.appendShard, Completion.descriptor, parcelLength, h.tag, h.units, h.fill, hz.aging]

/-! ### Sealed or discarded (02 R35 to R38) -/

/-- Seen from the state the shard found, the state after steps 2 and 3 of a completion: judged, with everything that the
parcel's end reads as it was. -/
structure Completion.SealedTo (c : Completion) (s y : State) : Prop where
  judged : c.judged s y y.store.freeList
  mode : y.mode = s.mode
  reports : y.slotReports = s.slotReports
  poisons : ∀ r : PoisonReason, y.parcels r.counter = s.parcels r.counter
  drops : ∀ d, d ≠ .evictions → y.drops d = s.drops d
  held : ∀ e ∈ c.held, y.unitOctets e.unit = s.unitOctets e.unit

/-- A placed parcel discarded for CHECK or LANE_FULL, neither of them a poison reason (02 R37, R38). -/
theorem Completion.Preceded.discarded {c : Completion} {s z : State} (h : c.Preceded s z) (kind : NoticeKind)
    {p : ParcelCounter} (g : Option Tag) (n : Option LaneId) (hp : ∀ r : PoisonReason, r.counter ≠ p)
    (hj : c.judged s (z.discardPlaced c.units kind p c.thread g n) (c.free ++ c.units)) :
    c.SealedTo s (z.discardPlaced c.units kind p c.thread g n) := by
  refine ⟨?_, ?_, ?_, fun r => ?_, fun d hd => ?_, fun e he => ?_⟩
  · have hfree : (z.discardPlaced c.units kind p c.thread g n).store.freeList = c.free ++ c.units := by
      simp [State.discardPlaced, h.freeList]
    rw [hfree]
    exact hj
  · rw [State.discardPlaced_mode, h.mode]
  · rw [State.discardPlaced_slotReports, h.reports]
  · rw [State.discardPlaced, State.parcels_bumpParcel_ne _ _ _ (hp r), State.parcels_raise, State.parcels_returnChain,
      h.parcels]
  · rw [State.discardPlaced, State.drops_bumpParcel, State.drops_raise, State.drops_returnChain, h.drops d hd]
  · rw [← h.held e he]
    exact State.unitOctets_of_octets _ _ _ (State.discardPlaced_octets z c.units kind p c.thread g n)

/-- The seal of a completion, by its trailer and the room in its lane. -/
theorem Completion.Preceded.sealed {c : Completion} {s z : State} (h : c.Preceded s z) {a : Assembly} {e : EarlyEntry}
    (hc : c.Carries z a e) : c.SealedTo s (z.sealParcel c.thread (z.appendShard a e) e) := by
  have hlane : ∀ n, z.lane n = s.lane n := fun n => State.lane_congr s z n h.lanes
  have hdescriptor := hc.descriptor_eq h
  have hunits : (z.appendShard a e).placed = c.units := hc.units
  have hdiscarded : ∀ kind p g n, (z.discardPlaced c.units kind p c.thread g n).lanes = s.lanes ∧
      (z.discardPlaced c.units kind p c.thread g n).parcels p = s.parcels p + 1 ∧
      ∀ q, q ≠ p → (z.discardPlaced c.units kind p c.thread g n).parcels q = s.parcels q := by
    intro kind p g n
    refine ⟨by rw [State.discardPlaced_lanes, h.lanes], ?_, fun q hq => ?_⟩
    · rw [State.discardPlaced, State.parcels_bumpParcel_self, State.parcels_raise, State.parcels_returnChain, h.parcels]
    · rw [State.discardPlaced, State.parcels_bumpParcel_ne _ _ _ hq, State.parcels_raise, State.parcels_returnChain,
        h.parcels]
  unfold State.sealParcel
  simp only [h.entry, hunits]
  by_cases hpass : c.passes
  · rw [if_pos (hc.trailerMatches_iff.mpr hpass), hdescriptor]
    by_cases hroom : (s.lane c.config.lane).queue.length < 32
    · have hoffer : z.offer (c.descriptor s.aging.periodNo) = some (z.setLane c.config.lane
          ((s.lane c.config.lane).append (c.descriptor s.aging.periodNo))) := by
        rw [← hlane]
        exact if_pos (by rw [hlane]; exact hroom)
      rw [hoffer]
      refine ⟨⟨fun _ _ => ⟨h.freeList, ?_, ?_, fun m hm => ?_⟩, fun _ hfull => absurd hroom (Nat.not_lt.mpr hfull),
        fun hn => absurd hpass hn⟩, h.mode, h.reports, fun r => ?_, h.drops, h.held⟩
      · rw [State.parcels_bumpParcel_self, State.parcels_setLane, h.parcels]
      · rw [State.lane_bumpParcel, State.lane_setLane_self]
        exact Lane.append_appended _ _
      · rw [State.lane_bumpParcel, State.lane_setLane_ne _ _ _ _ hm, hlane]
      · rw [State.parcels_bumpParcel_ne _ _ _ (by cases r <;> nofun), State.parcels_setLane, h.parcels]
    · have hoffer : z.offer (c.descriptor s.aging.periodNo) = none := if_neg (by rw [hlane]; exact hroom)
      rw [hoffer]
      obtain ⟨hlanes, hself, hother⟩ := hdiscarded .laneFull .laneFull (z.appendShard a e).parcelTag (some c.config.lane)
      exact h.discarded .laneFull _ _ (by intro r; cases r <;> nofun) ⟨fun _ hlt => absurd hlt hroom,
        fun _ _ => ⟨rfl, hother .sealed nofun, hself, hlanes⟩, fun hn => absurd hpass hn⟩
  · rw [if_neg (mt hc.trailerMatches_iff.mp hpass)]
    obtain ⟨hlanes, hself, hother⟩ := hdiscarded .check .check (z.appendShard a e).parcelTag none
    exact h.discarded .check _ _ (by intro r; cases r <;> nofun) ⟨fun hp => absurd hp hpass, fun hp => absurd hp hpass,
      fun _ => ⟨rfl, hother .sealed nofun, hself, hlanes⟩⟩

/-! ### Behind the seal (02 R39 to R41) -/

/-- The judgement stands while no lane is touched and only poisons are counted. -/
theorem Completion.judged_later {c : Completion} {s y t : State} {free : List UnitNo} (h : c.judged s y free)
    (hl : t.lanes = y.lanes) (hp : ∀ p, (∀ r : PoisonReason, p ≠ r.counter) → t.parcels p = y.parcels p) :
    c.judged s t free := by
  have hlane : ∀ n, t.lane n = y.lane n := fun n => State.lane_congr y t n hl
  have hsealed := hp .sealed (by intro r; cases r <;> nofun)
  have hfull := hp .laneFull (by intro r; cases r <;> nofun)
  have hcheck := hp .check (by intro r; cases r <;> nofun)
  unfold Completion.judged at h ⊢
  simpa only [hlane, hsealed, hfull, hcheck, hl] using h

/-- The signal of a parcel's end leaves what the completion has sealed. -/
theorem Completion.SealedTo.signalled {c : Completion} {s y : State} (h : c.SealedTo s y) (x : ThreadId) :
    c.SealedTo s (y.signalParcelEnd x) :=
  ⟨h.judged, h.mode, h.reports, h.poisons, h.drops, h.held⟩

/-- A parcel end behind a seal that leaves no parcel in progress: the entries held dropped, the slot RESTING or FREE. -/
theorem Completion.SealedTo.ended {c : Completion} {s y u : State} {d : DropCounter} {units : List UnitNo} {n : Nat}
    (h : c.SealedTo s y) (hd : y.DroppedTo u d units n) (hde : d ≠ .evictions)
    (hb : (y.thread c.thread).binding = some c.slot) :
    let t := u.restOrFree c.slot c.thread s.aging.periodNo c.expected
    (∃ free, c.judged s t free ∧ t.store.freeList = free ++ units) ∧
      t.drops d = s.drops d + BitVec.ofNat 32 n ∧ c.ends (y.thread c.thread).active s t := by
  have hthread := State.thread_congr y u c.thread hd.threads
  obtain ⟨hrests, hfrees⟩ := u.restOrFree_ends c.slot c.thread s.aging.periodNo c.expected
  rw [hthread, hb] at hrests
  rw [hthread] at hfrees
  refine ⟨⟨y.store.freeList, Completion.judged_later h.judged ?_ fun p _ => ?_, ?_⟩, ?_, hrests, hfrees, ?_⟩
  · rw [State.restOrFree_lanes, hd.lanes]
  · rw [State.parcels, State.restOrFree_counters, hd.parcels]
    rfl
  · rw [State.restOrFree_store, hd.freeList]
  · rw [State.drops_congr u _ d (u.restOrFree_counters c.slot c.thread s.aging.periodNo c.expected), hd.drops,
      h.drops d hde]
  · rw [State.restOrFree_slotReports, hd.reports, h.reports]

/-- A poison behind a seal. -/
theorem Completion.SealedTo.poisoned {c : Completion} {s y : State} (h : c.SealedTo s y) (units : List UnitNo) (g : Tag)
    (r : PoisonReason) :
    let t := y.poison c.slot c.thread s.aging.periodNo units (some g) r
    (∃ free, c.judged s t free ∧ t.store.freeList = free ++ units) ∧
      t.slot c.slot = .skipping c.thread s.aging.periodNo (some g) r ∧
      t.parcels r.counter = s.parcels r.counter + 1 ∧ t.slotReports = s.slotReports := by
  refine ⟨⟨y.store.freeList, Completion.judged_later h.judged (by simp) fun p hp => ?_, by simp⟩, by simp, ?_, ?_⟩
  · exact State.parcels_poison_ne _ _ _ _ _ _ _ _ (hp r)
  · rw [State.parcels_poison_self, h.poisons]
  · rw [State.poison_slotReports, h.reports]

/-! ### The next parcel (02 R40) -/

/-- Entries that lie below the limit without L leave last-held absent so far. -/
theorem rejudgeEntries_append {limit : Nat} {start : Seq} {before : List EarlyEntry}
    (h : ∀ f ∈ before, f.last = false ∧ f.inLimit limit start) (rest : List EarlyEntry) :
    rejudgeEntries limit start none (before ++ rest) = rejudgeEntries limit start none rest := by
  induction before with
  | nil => rfl
  | cons f before ih =>
    obtain ⟨hlast, hlim⟩ := h f (by simp)
    have hlim' : ¬ limit ≤ position f.seq start := Nat.not_le.mpr hlim
    rw [List.cons_append, rejudgeEntries]
    simp only [Option.any_none, Bool.false_eq_true, if_false, hlim', hlast]
    exact ih fun g hg => h g (by simp [hg])

/-- Entries beyond a held L are not judged. -/
theorem rejudgeEntries_beyond {limit : Nat} {start : Seq} {i : Nat} {after : List EarlyEntry}
    (h : ∀ f ∈ after, i < position f.seq start) : rejudgeEntries limit start (some i) after = .ok (some i) := by
  induction after with
  | nil => rfl
  | cons f after ih =>
    have hf : (some i).any (fun h => decide (h < position f.seq start)) = true := by simpa using h f (by simp)
    rw [rejudgeEntries, if_pos hf]
    exact ih fun g hg => h g (by simp [hg])

theorem rejudgeEntries_of_passes {limit : Nat} {start : Seq} {held : List EarlyEntry} {lastHeld : Option Nat}
    (h : passesAsNextParcel limit start held lastHeld) : rejudgeEntries limit start none held = .ok lastHeld := by
  rcases h with ⟨hall, rfl⟩ | ⟨before, e, after, rfl, hbefore, hlast, hlim, hlow, hhigh, hafter, rfl⟩
  · simpa [rejudgeEntries] using rejudgeEntries_append hall []
  · have hlim' : ¬ limit ≤ position e.seq start := Nat.not_le.mpr hlim
    rw [rejudgeEntries_append hbefore, rejudgeEntries]
    simp only [Option.any_none, Bool.false_eq_true, if_false, hlim', hlast, if_true,
      (fillInRange_iff e.fill).mpr ⟨hlow, hhigh⟩]
    exact rejudgeEntries_beyond hafter

theorem rejudgeEntries_of_fails {limit : Nat} {start : Seq} {held : List EarlyEntry} {e : EarlyEntry}
    {reason : PoisonReason} (h : failsAsNextParcel limit start held e reason) :
    rejudgeEntries limit start none held = .failed reason e := by
  obtain ⟨before, after, rfl, hbefore, hwhy⟩ := h
  rw [rejudgeEntries_append hbefore, rejudgeEntries]
  rcases hwhy with ⟨hlim, rfl⟩ | ⟨hlim, hlast, hfill, rfl⟩
  · have hlim' : limit ≤ position e.seq start := Nat.not_lt.mp hlim
    simp only [Option.any_none, Bool.false_eq_true, if_false, hlim', if_true]
  · have hlim' : ¬ limit ≤ position e.seq start := Nat.not_le.mpr hlim
    have hrange : ¬ fillInRange e.fill = true := by rw [fillInRange_iff]; omega
    simp only [Option.any_none, Bool.false_eq_true, if_false, hlim', hlast, if_true, hrange]

/-- The parcel a retain thread's kept entries begin (02 R40 step 5). -/
def Assembly.next (x : Seq) (held : List EarlyEntry) (lastHeld : Option Nat) : Assembly :=
  { Assembly.begin_ x with early := held, lastHeld := lastHeld }

/-- The drain of a next parcel places the entries with which it begins at once. -/
theorem State.drain_next (s : State) (k : SlotId) (t : ThreadId) (stamp : PeriodNo) {x : Seq}
    {started later : List EarlyEntry} (lastHeld : Option Nat) (hs : startsAt x started)
    (hd : notDue (x + BitVec.ofNat 8 started.length) later) :
    s.drain k t stamp (Assembly.next x (started ++ later) lastHeld) = s.setSlot k (.assembling t stamp
      { expected := x + BitVec.ofNat 8 started.length, parcelStart := x, parcelTag := started.head?.map EarlyEntry.tag,
        placed := unitsOf started, check := s.checkOver 0xFFFFFFFF#32 started, early := later,
        lastHeld := lastHeld }) := by
  cases started with
  | nil =>
    have hx : x + BitVec.ofNat 8 ([] : List EarlyEntry).length = x := BitVec.add_zero x
    rw [hx] at hd ⊢
    exact State.drain_stops s k t stamp (Assembly.next x later lastHeld) hd
  | cons e run =>
    obtain ⟨hseq, hfirst, hlast, hrun⟩ := hs
    have hplace := State.placeShard_of_joins s k t stamp (a := Assembly.next x (run ++ later) lastHeld) (e := e)
      (.inl ⟨hseq, hfirst⟩) hlast
    let b := (Assembly.next x (run ++ later) lastHeld).extended e.tag [e.unit]
      (parcelCheckUpdate 0xFFFFFFFF#32 (s.unitOctets e.unit)) (run ++ later)
    have hdrain := State.drain_run s k t stamp run later (a := b) (g := e.tag) rfl rfl
      (by rw [Assembly.extended_expected_one, Assembly.extended_parcelStart]; exact hrun)
    rw [Assembly.extended_extended, List.singleton_append, Assembly.extended_cons, length_unitsOf] at hdrain
    have hlen : x + BitVec.ofNat 8 (e :: run).length = x + 1 + BitVec.ofNat 8 run.length := by
      rw [List.length_cons, Nat.add_comm, BitVec.ofNat_add, BitVec.add_assoc]
      rfl
    rw [hlen] at hd ⊢
    rw [State.drain_more s k t stamp (Assembly.next x (e :: run ++ later) lastHeld) rfl hseq hplace]
    exact hdrain.trans (State.drain_stops s k t stamp _ hd)

/-- A retain thread goes on with the entries kept, behind a seal (02 R40). -/
theorem Completion.SealedTo.continues {c : Completion} {s y : State} (h : c.SealedTo s y)
    (hcfg : (y.thread c.thread).active = c.config) : c.continues s
      ((y.nextParcel c.slot c.thread s.aging.periodNo c.expected c.held).drained c.slot c.thread s.aging.periodNo) := by
  refine ⟨fun e r hfails => ?_, fun lastHeld hpasses => ?_⟩
  · have hre := rejudgeEntries_of_fails hfails
    rw [State.nextParcel, hcfg, hre]
    exact h.poisoned (unitsOf c.held) e.tag r
  · have hre := rejudgeEntries_of_passes hpasses
    have ht : (y.nextParcel c.slot c.thread s.aging.periodNo c.expected c.held).drained c.slot c.thread
        s.aging.periodNo = y.drain c.slot c.thread s.aging.periodNo (Assembly.next c.expected c.held lastHeld) := by
      rw [State.nextParcel, hcfg, hre]
      rfl
    rw [ht]
    refine ⟨fun e more hheld hseq hfirst => ?_, fun started later hheld hstarts hdue => ?_⟩
    · rw [hheld, State.drain_eq_drained y c.slot c.thread s.aging.periodNo
        (Assembly.next c.expected (e :: more) lastHeld) rfl hseq,
        State.placeShard_framing y c.slot c.thread s.aging.periodNo _ e hseq hfirst]
      exact h.poisoned (unitsOf more ++ [e.unit]) e.tag .framing
    · have hcheck := State.checkOver_congr (s := s) (z := y) (es := started)
        (fun e he => h.held e (by rw [hheld]; simp [he])) 0xFFFFFFFF#32
      rw [hheld, State.drain_next y c.slot c.thread s.aging.periodNo lastHeld hstarts hdue, hcheck]
      exact ⟨Completion.judged_later h.judged rfl fun _ _ => State.parcels_setSlot _ _ _ _, h.reports,
        State.slot_setSlot_self _ _ _⟩

/-! ### The completion as a whole (02 R35) -/

/-- The placement of an L that has passed the placement checks takes its completion, drain of the next parcel included. -/
theorem Completion.Preceded.taken {c : Completion} {s z : State} {a : Assembly} {e : EarlyEntry} (h : c.Preceded s z)
    (hc : c.Carries z a e) : c.taken s
      ((z.placePassed c.slot c.thread s.aging.periodNo a e).drained c.slot c.thread s.aging.periodNo) := by
  let now := s.aging.periodNo
  let y := z.sealParcel c.thread (z.appendShard a e) e
  let signalled := y.signalParcelEnd c.thread
  have hy : c.SealedTo s y := h.sealed hc
  have hentry : y.thread c.thread = { active := c.config, pending := c.pending, binding := some c.slot } :=
    (State.thread_sealParcel z c.thread _ e c.thread).trans h.entry
  have hplace : z.placePassed c.slot c.thread now a e = y.finishParcel c.slot c.thread now c.expected c.held := by
    rw [State.placePassed, if_pos hc.last, ← hc.expected, ← hc.held]
    rfl
  have hactive : (y.thread c.thread).active = c.config := by rw [hentry]
  have hbinding : (y.thread c.thread).binding = some c.slot := by rw [hentry]
  have hpending : (y.thread c.thread).pending = c.pending := by rw [hentry]
  refine ⟨fun next hp => ?_, fun hp hheld => ?_, fun hp hr => ?_, fun hp hr hne hm => ?_, fun hp hr hne hm => ?_,
    fun j hj => ?_⟩
  · have hsignal : signalled.thread c.thread = { active := next, pending := none, binding := some c.slot } := by
      rw [State.thread_signalParcelEnd_self, hentry, hp]
      rfl
    have hended := (hy.signalled c.thread).ended (State.dropEntries_droppedTo signalled c.held .displaced) nofun
      (by rw [hsignal])
    have hconfig := (signalled.dropEntries c.held .displaced).thread_restOrFree_config c.slot c.thread now c.expected
    rw [State.thread_dropEntries, hsignal] at hconfig
    rw [hsignal] at hended
    rw [hplace, y.finishParcel_displaces c.slot c.thread now c.expected c.held (hpending.trans hp)]
    obtain ⟨hreturned, hdrops, hends⟩ := hended
    exact ⟨hreturned, hdrops, hconfig.1, hconfig.2, hends⟩
  · have hended := hy.ended (y.returnChain_droppedTo .orphan []) nofun hbinding
    rw [State.returnChain_nil, hactive] at hended
    rw [hplace, hheld, y.finishParcel_empty c.slot c.thread now c.expected (hpending.trans hp)]
    exact ⟨hended.1, hended.2.2⟩
  · have hended := hy.ended (y.orphanEntries_droppedTo c.thread c.held) nofun hbinding
    rw [hactive] at hended
    rw [hplace, y.finishParcel_orphans c.slot c.thread now c.expected c.held (hpending.trans hp)
      (by rw [hactive, ← Bool.not_eq_true, Bool.and_eq_true]; exact hr)]
    exact hended
  · have hended := hy.ended (State.dropEntries_droppedTo y c.held .notRunning) nofun hbinding
    rw [hactive] at hended
    rw [hplace, y.finishParcel_closing c.slot c.thread now c.expected c.held (hpending.trans hp)
      (by rw [hactive, Bool.and_eq_true]; exact hr) hne (hy.mode.trans hm)]
    exact hended
  · rw [hplace, y.finishParcel_next c.slot c.thread now c.expected c.held (hpending.trans hp)
      (by rw [hactive, Bool.and_eq_true]; exact hr) hne (by rw [hy.mode]; exact hm)]
    exact hy.continues hactive
  · rw [Placed.slot_drained_ne _ _ _ _ hj, State.slot_placePassed_ne z c.slot c.thread now a e hj, h.slots j hj]

end Sys2Proof.Machine

end

section
/-! SUPPORT. How an L comes to its placement: the states in which a slot and its thread stand ready for a shard, the unit claimed from there, and the parcel that a shard carrying F and L starts (01 R5, R6, R10, R11, 02 R28, R32, R46). -/

namespace Sys2Proof.Machine

/-! ### A slot and its thread ready for a shard -/

/-- Seen from the state the shard found, the state in which its unit is claimed: the thread bound to the slot with the
configuration in force, and everything else that a completion reads as it was. -/
structure State.ReadiedTo (s w : State) (k : SlotId) (x : ThreadId) (cfg : ThreadConfig) (pending : Option ThreadConfig) :
    Prop where
  store : w.store = s.store
  lanes : w.lanes = s.lanes
  aging : w.aging = s.aging
  mode : w.mode = s.mode
  reports : w.slotReports = s.slotReports
  parcels : ∀ p, w.parcels p = s.parcels p
  drops : ∀ d, d ≠ .evictions → w.drops d = s.drops d
  slots : ∀ j, j ≠ k → w.slot j = s.slot j
  entry : w.thread x = { active := cfg, pending := pending, binding := some k }

/-- A bound slot written anew leaves its thread ready (01 R8). -/
theorem State.setSlot_readiedTo {s : State} {k : SlotId} {x : ThreadId} (v : Slot)
    (hb : (s.thread x).binding = some k) :
    s.ReadiedTo (s.setSlot k v) k x (s.thread x).active (s.thread x).pending :=
  ⟨rfl, rfl, rfl, rfl, rfl, fun _ => rfl, fun _ _ => rfl, fun _ hj => State.slot_setSlot_ne _ _ _ _ hj,
    by rw [State.thread_setSlot, ← hb]⟩

/-- A slot bound to an unbound thread (01 R5). -/
theorem State.setBinding_readiedTo (s : State) (k : SlotId) (x : ThreadId) :
    s.ReadiedTo (s.setBinding x (some k)) k x (s.thread x).active (s.thread x).pending :=
  ⟨rfl, rfl, rfl, rfl, rfl, fun _ => rfl, fun _ _ => rfl, fun _ _ => rfl, State.thread_setBinding_self s x (some k)⟩

/-- The same after the eviction of another thread (01 R6). -/
theorem State.evicted_readiedTo (s : State) (k : SlotId) {x y : ThreadId} (hxy : y ≠ x) :
    s.ReadiedTo (((s.setBinding y none).bumpDrop .evictions).setBinding x (some k)) k x (s.thread x).active
      (s.thread x).pending := by
  refine ⟨rfl, rfl, rfl, rfl, rfl, fun _ => rfl, fun d hd => ?_, fun _ _ => rfl, ?_⟩
  · exact State.drops_bumpDrop_ne (s.setBinding y none) .evictions d hd
  · rw [State.thread_setBinding_self, State.thread_bumpDrop, State.thread_setBinding_ne _ _ _ _ hxy.symm]

/-- A skip that ends at a shard carrying F: the pending configuration in force (02 R46, 03 R56). -/
theorem State.signalParcelEnd_readiedTo {s : State} {k : SlotId} {x : ThreadId} (v : Slot)
    (hb : (s.thread x).binding = some k) :
    s.ReadiedTo ((s.setSlot k v).signalParcelEnd x) k x ((s.thread x).pending.getD (s.thread x).active) none := by
  refine ⟨rfl, rfl, rfl, rfl, rfl, fun _ => rfl, fun _ _ => rfl, fun _ hj => State.slot_setSlot_ne _ _ _ _ hj, ?_⟩
  have hsignal := State.thread_signalParcelEnd_self (s.setSlot k v) x
  rw [State.thread_setSlot] at hsignal
  rw [hsignal, ← ThreadEntry.endParcel_active, ← ThreadEntry.endParcel_pending (s.thread x), ← hb,
    ← ThreadEntry.endParcel_binding (s.thread x)]

/-! ### The unit claimed -/

/-- The state a successful claim leaves: the unit taken and the judgement of 04 R72 made. -/
def State.claimed (w : State) (c : ClassId) (payload : List Byte) (u : UnitNo) (rest : List UnitNo) : State :=
  (w.takeUnit c payload u rest).judgeRise c

theorem State.claimed_lanes (w : State) (c : ClassId) (payload : List Byte) (u : UnitNo) (rest : List UnitNo) :
    (w.claimed c payload u rest).lanes = w.lanes := by
  rw [State.claimed, State.judgeRise_lanes, State.takeUnit_lanes]

theorem State.parcels_claimed (w : State) (c : ClassId) (payload : List Byte) (u : UnitNo) (rest : List UnitNo)
    (p : ParcelCounter) : (w.claimed c payload u rest).parcels p = w.parcels p := by
  rw [State.claimed, State.parcels_judgeRise]
  rfl

theorem State.claimed_freeList (w : State) (c : ClassId) (payload : List Byte) (u : UnitNo) (rest : List UnitNo) :
    (w.claimed c payload u rest).store.freeList = rest := by
  rw [State.claimed, State.judgeRise_freeList, State.takeUnit_freeList]

section Claimed

variable {s w : State} {k : SlotId} {x : ThreadId} {cfg : ThreadConfig} {pending : Option ThreadConfig}
  (h : s.ReadiedTo w k x cfg pending) {payload : List Byte} {u : UnitNo} {rest : List UnitNo} (hm : s.memoryLaw)
  (hp : payload.length = 56)

include h

theorem State.ReadiedTo.claimed_octets : (w.claimed cfg.cls payload u rest).store.octets =
    Memory.writeAll s.store.octets (unitAddress u) payload := by
  rw [State.claimed, State.judgeRise_octets, State.takeUnit_octets, h.store]

include hm hp

/-- The unit claimed reads back as the payload (04 R64). -/
theorem State.ReadiedTo.claimed_written : (w.claimed cfg.cls payload u rest).unitOctets u = payload :=
  State.unitOctets_written hm hp h.claimed_octets

/-- Every other unit reads as before (04 R64). -/
theorem State.ReadiedTo.claimed_other {v : UnitNo} (hv : v ≠ u) :
    (w.claimed cfg.cls payload u rest).unitOctets v = s.unitOctets v :=
  State.unitOctets_other hm hp h.claimed_octets hv

end Claimed

/-- A completion whose L has claimed its unit in a readied state is preceded by that claim (04 R68). -/
theorem State.ReadiedTo.claimed_preceded {c : Completion} {s w : State}
    (h : s.ReadiedTo w c.slot c.thread c.config c.pending) {payload : List Byte} {u : UnitNo}
    (hm : s.memoryLaw) (hp : payload.length = 56) (hheld : ∀ e ∈ c.held, e.unit ≠ u) :
    c.Preceded s (w.claimed c.config.cls payload u c.free) := by
  refine ⟨?_, ?_, ?_, ?_, fun p => ?_, fun d hd => ?_, fun j hj => ?_, State.claimed_freeList _ _ _ _ _, ?_,
    fun e he => ?_⟩
  · rw [State.claimed_lanes, h.lanes]
  · rw [State.claimed, State.judgeRise_aging, State.takeUnit_aging, h.aging]
  · rw [State.claimed, State.judgeRise_mode, State.takeUnit_mode, h.mode]
  · rw [State.claimed, State.judgeRise_slotReports, State.takeUnit_slotReports, h.reports]
  · rw [State.parcels_claimed, h.parcels]
  · rw [State.claimed, State.drops_judgeRise]
    exact h.drops d hd
  · rw [State.claimed, State.slot_judgeRise, State.slot_takeUnit, h.slots j hj]
  · rw [State.claimed, State.thread_judgeRise, State.thread_takeUnit, h.entry]
  · exact h.claimed_other hm hp (hheld e he)

/-- A restart on F between the claim and the placement: the old placed units returned and one FRAMING discard counted
(02 R28). -/
theorem Completion.Preceded.restarted {c : Completion} {s z : State} {a : Assembly} (e : EarlyEntry)
    {free : List UnitNo} (h : { c with free := free }.Preceded s z) (hf : c.free = free ++ a.placed) :
    c.Preceded (s.bumpParcel .framing) (z.restartedFrom c.thread a e) := by
  refine ⟨?_, ?_, ?_, ?_, fun p => ?_, fun d hd => ?_, fun j hj => ?_, ?_, ?_, fun f hfm => ?_⟩
  · simpa [State.restartedFrom, State.restartParcel] using h.lanes
  · simpa [State.restartedFrom, State.restartParcel] using h.aging
  · simpa [State.restartedFrom, State.restartParcel] using h.mode
  · simpa [State.restartedFrom, State.restartParcel] using h.reports
  · have hz := h.parcels
    by_cases hpf : p = .framing
    · subst hpf
      simp [State.restartedFrom, State.restartParcel, hz]
    · simp [State.restartedFrom, State.restartParcel, State.parcels_bumpParcel_ne _ _ _ hpf, hz]
  · simpa [State.restartedFrom, State.restartParcel] using h.drops d hd
  · simpa [State.restartedFrom, State.restartParcel] using h.slots j hj
  · rw [(State.restartedFrom_facts z c.thread a e).1, h.freeList, hf]
  · simpa [State.restartedFrom, State.restartParcel] using h.entry
  · rw [State.unitOctets_restartedFrom]
    exact h.held f hfm

/-! ### A due shard in ASSEMBLING (01 R11) -/

/-- A due shard that passes the arrival checks claims its unit and is placed, the drain behind it included. -/
theorem State.takeShard_due_eq {s : State} {sh : DataShard} {k : SlotId} {t₀ : ThreadId} {p₀ : PeriodNo} {a : Assembly}
    {u : UnitNo} {rest : List UnitNo} (hb : (s.thread sh.thread).binding = some k)
    (hk : s.slot k = .assembling t₀ p₀ a) (hd : sh.seq = a.expected)
    (hfill : sh.last = false ∨ 5 ≤ sh.fill.toNat ∧ sh.fill.toNat ≤ 56)
    (hh : ∀ h, a.lastHeld = some h → position sh.seq a.parcelStart ≤ h)
    (hl : position sh.seq a.parcelStart < (s.thread sh.thread).active.limit)
    (hroom : (s.cls (s.thread sh.thread).active.cls).usage < (s.cls (s.thread sh.thread).active.cls).quota)
    (hfree : s.store.freeList = u :: rest) : s.takeShard sh =
      ((s.setSlot k (.assembling t₀ s.aging.periodNo a)).claimed (s.thread sh.thread).active.cls sh.payload u
        rest).placeAndDrain k sh.thread s.aging.periodNo a (sh.entry u) := by
  let stamped := s.setSlot k (.assembling t₀ s.aging.periodNo a)
  have hwithin : a.beyondLast (position sh.seq a.parcelStart) = false := by
    rw [← Bool.not_eq_true, Assembly.beyondLast_iff]
    rintro ⟨h, hi, hlt⟩
    exact absurd (hh h hi) (Nat.not_le.mpr hlt)
  rw [State.takeShard_assembling s sh k t₀ p₀ a hb hk]
  exact State.judgeAssembling_due stamped k a sh hwithin hl (fillFails_eq_false hfill) ((distance_eq_zero_iff _ _).mpr hd)
    u _ (State.claim_success stamped _ sh.payload u rest hroom hfree)

/-- A due shard without L that joins, the run held behind it, and the L that follows the run, which joins as well. -/
theorem State.placeAndDrain_run_last (z : State) (k : SlotId) (t : ThreadId) (stamp : PeriodNo) {a : Assembly}
    {e l : EarlyEntry} {run more : List EarlyEntry} (hj : e.joins a) (hl : e.last = false) (hd : e.seq = a.expected)
    (hea : a.early = run ++ l :: more) (hrun : isRun a.parcelStart e.tag (e.seq + 1) run)
    (hdue : l.seq = e.seq + 1 + BitVec.ofNat 8 run.length) (hs : l.seq ≠ a.parcelStart) (hf : l.first = false)
    (hg : l.tag = e.tag) : z.placeAndDrain k t stamp a e =
      (z.placePassed k t stamp { a with
        expected := l.seq, parcelTag := some l.tag, placed := a.placed ++ e.unit :: unitsOf run,
        check := z.checkOver (parcelCheckUpdate a.check (z.unitOctets e.unit)) run, early := more } l).drained
          k t stamp := by
  have hexpected : a.expected + 1 + BitVec.ofNat 8 (unitsOf run).length = l.seq := by
    rw [length_unitsOf, hdue, hd]
  rw [State.placeAndDrain_joins z k t stamp hj hl hd hea hrun, Assembly.extended_cons, hexpected,
    State.drain_eq_drained z k t stamp _ rfl rfl]
  refine congrArg (fun p => Placed.drained p k t stamp) ?_
  exact State.placeShard_passed_of_joins z k t stamp (.inr ⟨hs, hf, by rw [hg]⟩)

/-! ### A shard carrying F and L that starts a parcel (01 R5, R10, 02 R32, R46) -/

/-- The four ways in which a shard carrying F finds a slot to start a parcel in: each with the state in which it does. -/
theorem State.takeShard_binds {s : State} {sh : DataShard} {k : SlotId} (hf : sh.first = true)
    (hb : (s.thread sh.thread).binding = none) (hk : s.slot k = .free) (hlow : ∀ j, j < k → s.slot j ≠ .free) :
    ∃ w, s.ReadiedTo w k sh.thread (s.thread sh.thread).active (s.thread sh.thread).pending ∧
      s.takeShard sh = w.startParcel k sh := by
  refine ⟨_, s.setBinding_readiedTo k sh.thread, ?_⟩
  rw [State.takeShard_unbound s sh hb, State.takeUnbound_free s sh k hf (s.lowestFree_eq k hk hlow)]
  rfl

theorem State.takeShard_evicts {s : State} {sh : DataShard} {k : SlotId} {t₀ : ThreadId} {p₀ : PeriodNo} {e₀ : Seq}
    (hf : sh.first = true) (hb : (s.thread sh.thread).binding = none) (hfull : ∀ j, s.slot j ≠ .free)
    (hk : s.slot k = .resting t₀ p₀ e₀) (hne : t₀ ≠ sh.thread)
    (hold : ∀ j t₁ p₁ e₁, s.slot j = .resting t₁ p₁ e₁ →
      (s.aging.periodNo - p₁).toNat ≤ (s.aging.periodNo - p₀).toNat ∧
        ((s.aging.periodNo - p₁).toNat = (s.aging.periodNo - p₀).toNat → k ≤ j)) :
    ∃ w, s.ReadiedTo w k sh.thread (s.thread sh.thread).active (s.thread sh.thread).pending ∧
      s.takeShard sh = w.startParcel k sh := by
  have holdest : s.oldestResting = some k := by
    refine s.oldestResting_eq k _ (s.restingAge_resting k t₀ p₀ e₀ hk) fun j m hm => ?_
    obtain ⟨t₁, p₁, e₁, hj, rfl⟩ := State.restingAge_some hm
    exact hold j t₁ p₁ e₁ hj
  refine ⟨_, s.evicted_readiedTo k hne, ?_⟩
  rw [State.takeShard_unbound s sh hb, State.takeUnbound_evict s sh k hf (s.lowestFree_none hfull) holdest,
    State.evict_resting hk]
  rfl

theorem State.takeShard_resting_starts {s : State} {sh : DataShard} {k : SlotId} {t₀ : ThreadId} {p₀ : PeriodNo}
    (hf : sh.first = true) (hb : (s.thread sh.thread).binding = some k) (hk : s.slot k = .resting t₀ p₀ sh.seq) :
    ∃ w, s.ReadiedTo w k sh.thread (s.thread sh.thread).active (s.thread sh.thread).pending ∧
      s.takeShard sh = w.startParcel k sh := by
  refine ⟨_, State.setSlot_readiedTo (.resting t₀ s.aging.periodNo sh.seq) hb, ?_⟩
  rw [State.takeShard_resting s sh k t₀ p₀ sh.seq hb hk]
  exact State.judgeResting_start _ k sh.seq sh ((distance_eq_zero_iff _ _).mpr rfl) hf

theorem State.takeShard_skipping_starts {s : State} {sh : DataShard} {k : SlotId} {t₀ : ThreadId} {p₀ : PeriodNo}
    {g : Option Tag} {r : PoisonReason} (hf : sh.first = true) (hb : (s.thread sh.thread).binding = some k)
    (hk : s.slot k = .skipping t₀ p₀ g r) (hg : g ≠ some sh.tag)
    (he : ((s.thread sh.thread).pending.getD (s.thread sh.thread).active).enabled = true) :
    ∃ w, s.ReadiedTo w k sh.thread ((s.thread sh.thread).pending.getD (s.thread sh.thread).active) none ∧
      s.takeShard sh = w.startParcel k sh := by
  refine ⟨_, State.signalParcelEnd_readiedTo (.skipping t₀ s.aging.periodNo g r) hb, ?_⟩
  rw [State.takeShard_skipping s sh k t₀ p₀ g r hb hk]
  exact State.judgeSkipping_starts _ k sh g hg hf he

section Starts

variable {s w : State} {k : SlotId} {sh : DataShard} {cfg : ThreadConfig} {pending : Option ThreadConfig}
  (h : s.ReadiedTo w k sh.thread cfg pending)

include h

/-- A poison at the start leaves the slot SKIPPING with the shard's tag, one more discard counted, and the lanes. -/
theorem State.ReadiedTo.poisoned {z : State} (hl : z.lanes = w.lanes) (hp : ∀ p, z.parcels p = w.parcels p)
    (units : List UnitNo) (r : PoisonReason) :
    let t := z.poison k sh.thread w.aging.periodNo units (some sh.tag) r
    t.slot k = .skipping sh.thread s.aging.periodNo (some sh.tag) r ∧ t.parcels r.counter = s.parcels r.counter + 1 ∧
      t.lanes = s.lanes := by
  refine ⟨?_, ?_, ?_⟩
  · rw [State.slot_poison_self, h.aging]
  · rw [State.parcels_poison_self, hp, h.parcels]
  · rw [State.poison_lanes, hl, h.lanes]

theorem State.ReadiedTo.startParcel_quota (hq : ¬ (s.cls cfg.cls).usage < (s.cls cfg.cls).quota) :
    w.startParcel k sh = w.poison k sh.thread w.aging.periodNo [] (some sh.tag) .quota := by
  refine State.startParcel_failed w k sh .quota (State.claim_quota w _ sh.payload ?_)
  rw [h.entry, State.cls_congr s w _ h.store]
  exact Nat.not_lt.mp hq

variable (hroom : (s.cls cfg.cls).usage < (s.cls cfg.cls).quota)

include hroom

theorem State.ReadiedTo.startParcel_store (hfree : s.store.freeList = []) :
    w.startParcel k sh = w.poison k sh.thread w.aging.periodNo [] (some sh.tag) .store := by
  refine State.startParcel_failed w k sh .store (State.claim_store w _ sh.payload ?_ (by rw [h.store, hfree]))
  rw [h.entry, State.cls_congr s w _ h.store]
  exact hroom

variable {u : UnitNo} {rest : List UnitNo} (hfree : s.store.freeList = u :: rest)

include hfree

theorem State.ReadiedTo.claim_taken :
    w.claim (w.thread sh.thread).active.cls sh.payload = .taken u (w.claimed cfg.cls sh.payload u rest) := by
  rw [h.entry]
  refine State.claim_success w cfg.cls sh.payload u rest ?_ (by rw [h.store, hfree])
  rw [State.cls_congr s w _ h.store]
  exact hroom

/-- The unit is claimed before the fill is checked, and a bad fill returns it (02 R32). -/
theorem State.ReadiedTo.startParcel_framing (hfill : (sh.last && !fillInRange sh.fill) = true) : w.startParcel k sh =
    (w.claimed cfg.cls sh.payload u rest).poison k sh.thread w.aging.periodNo [u] (some sh.tag) .framing := by
  simp only [State.startParcel, h.claim_taken hroom hfree, hfill, if_true]

/-- The shard placed at position 0 of the parcel it starts, drain included (02 R27). -/
theorem State.ReadiedTo.startParcel_placed (hf : sh.first = true)
    (hfill : (sh.last && !fillInRange sh.fill) = false) : w.startParcel k sh =
    ((w.claimed cfg.cls sh.payload u rest).placePassed k sh.thread s.aging.periodNo
      { Assembly.begin_ sh.seq with parcelTag := some sh.tag } (sh.entry u)).drained k sh.thread s.aging.periodNo := by
  simp only [State.startParcel, h.claim_taken hroom hfree, hfill, Bool.false_eq_true, if_false]
  rw [State.placeAndDrain_eq_drained, State.placeShard_start _ _ _ _ _ _ rfl hf, h.aging]
  rfl

end Starts

end Sys2Proof.Machine

open Sys2Proof Sys2Proof.Machine

/-- Settles O30: `Completion.Preceded.taken` for each way an L comes to its placement. A due shard claims its unit
(`State.takeShard_due_eq`) and joins, restarts or is followed by the run up to the L; a shard carrying F and L claims it in
the slot made ready for its thread (`State.ReadiedTo`). -/
theorem lastShardCompletesTheParcel : Obligations.LastShardCompletesTheParcel := by
  refine ⟨?_, ?_⟩
  · intro s sh k t₀ p₀ a u rest hb hk hd hh hm hp hunit cfg pending start t joins hl hroom hfree
    let now := s.aging.periodNo
    let z := (s.setSlot k (.assembling t₀ now a)).claimed cfg.cls sh.payload u rest
    have hready : s.ReadiedTo (s.setSlot k (.assembling t₀ now a)) k sh.thread cfg pending :=
      State.setSlot_readiedTo _ hb
    have hwritten : z.unitOctets u = sh.payload := hready.claimed_written hm hp
    have hother : ∀ e ∈ a.early, z.unitOctets e.unit = s.unitOctets e.unit := fun e he =>
      hready.claimed_other hm hp (hunit e he)
    have ht : sh.last = false ∨ 5 ≤ sh.fill.toNat ∧ sh.fill.toNat ≤ 56 →
        t = z.placeAndDrain k sh.thread now a (sh.entry u) := fun hfill =>
      State.takeShard_due_eq hb hk hd hfill hh hl hroom hfree
    refine ⟨fun hlast hlow hhigh => ⟨fun hj => ?_, fun hs hf => ?_⟩,
      fun run e more hlast hj hea hrun he hstart hf hg hel => ?_⟩
    · have hplace := State.placeShard_passed_of_joins z k sh.thread now (a := a) (e := sh.entry u) hj
      rw [ht (.inr ⟨hlow, hhigh⟩), State.placeAndDrain_eq_drained, hplace]
      exact Completion.Preceded.taken (hready.claimed_preceded hm hp hunit)
        ⟨hlast, rfl, hwritten, rfl, rfl, rfl, by rw [hd], rfl⟩
    · rw [ht (.inr ⟨hlow, hhigh⟩), State.placeAndDrain_eq_drained, State.placeShard_restart z k _ _ a _ hs hf]
      exact Completion.Preceded.taken
        (Completion.Preceded.restarted (sh.entry u) (hready.claimed_preceded hm hp hunit) rfl)
        ⟨hlast, rfl, (State.unitOctets_restartedFrom z sh.thread a (sh.entry u) u).trans hwritten, rfl, rfl, rfl, rfl, rfl⟩
    · have hin : ∀ f ∈ run ++ e :: more, f ∈ a.early := fun f hf => hea ▸ hf
      have hcheck : z.checkOver (parcelCheckUpdate a.check (z.unitOctets u)) run =
          s.checkOver (parcelCheckUpdate a.check sh.payload) run := by
        rw [hwritten]
        exact State.checkOver_congr (fun f hf => hother f (hin f (by simp [hf]))) _
      rw [ht (.inl hlast), State.placeAndDrain_run_last z k sh.thread now (a := a) (e := sh.entry u) hj hlast hd hea hrun he
        hstart hf hg]
      exact Completion.Preceded.taken
        (hready.claimed_preceded hm hp fun f hf => hunit f (hin f (by simp [show f ∈ more from hf])))
        ⟨hel, rfl, hother e (hin e (by simp)), congrArg some hg, rfl, hcheck, rfl, rfl⟩
  · intro s sh k cfg pending hf hl entry evicts binds starts skipEnds hcase
    obtain ⟨w, hready, htake⟩ : ∃ w, s.ReadiedTo w k sh.thread cfg pending ∧ s.takeShard sh = w.startParcel k sh := by
      rcases hcase with ⟨⟨hb, ⟨hk, hlow⟩ | ⟨hfull, t₀, p₀, e₀, hk, hne, hold⟩⟩ | ⟨hb, t₀, p₀, hk⟩, rfl, rfl⟩ |
        ⟨⟨hb, t₀, p₀, g, r, hk, hg⟩, rfl, he, rfl⟩
      · exact State.takeShard_binds hf hb hk hlow
      · exact State.takeShard_evicts hf hb hfull hk hne hold
      · exact State.takeShard_resting_starts hf hb hk
      · exact State.takeShard_skipping_starts hf hb hk hg he
    intro room t skipping
    have ht : t = w.startParcel k sh := htake
    have hskip : ∀ (z : State) (units : List UnitNo) (r : PoisonReason),
        t = z.poison k sh.thread w.aging.periodNo units (some sh.tag) r → z.lanes = w.lanes →
        (∀ p, z.parcels p = w.parcels p) → skipping r ∧ t.store.freeList = z.store.freeList ++ units := by
      intro z units r h hlanes hparcels
      have hp := hready.poisoned hlanes hparcels units r
      rw [← h] at hp
      exact ⟨hp, by rw [h, State.poison_freeList]⟩
    refine ⟨fun hr => ?_, fun hr hfree => ?_, fun u rest hr hfree => ⟨fun hfill => ?_, fun hlow hhigh hm hp => ?_⟩⟩
    · have h := hskip w [] _ (ht.trans (hready.startParcel_quota hr)) rfl fun _ => rfl
      rwa [List.append_nil, hready.store] at h
    · have h := hskip w [] _ (ht.trans (hready.startParcel_store hr hfree)) rfl fun _ => rfl
      rwa [List.append_nil, hready.store, hfree] at h
    · have hbad : (sh.last && !fillInRange sh.fill) = true := fillFails_eq_true (by
        rw [hl]
        simp only [Bool.true_eq_false, false_or]
        omega)
      have h := hskip _ [u] _ (ht.trans (hready.startParcel_framing hr hfree hbad)) (State.claimed_lanes _ _ _ _ _)
        (State.parcels_claimed _ _ _ _ _)
      rwa [State.claimed_freeList] at h
    · rw [ht, hready.startParcel_placed hr hfree hf (fillFails_eq_false (.inr ⟨hlow, hhigh⟩))]
      exact Completion.Preceded.taken (hready.claimed_preceded hm hp nofun)
        ⟨hl, rfl, hready.claimed_written hm hp, rfl, rfl, rfl, rfl, rfl⟩

end

section
/-! SUPPORT. CUT: its target threads, what it does to the slot of each, and its counts, which are taken over the threads and stand for slots (08 R128 to R130, 01 R3). -/

namespace Sys2Proof.Machine

/-! ### The slots that serve threads (01 R3) -/

/-- The record of the slot bound to a thread. -/
def State.serving (s : State) (x : ThreadId) : Option Slot := (s.thread x).binding.map s.slot

/-- The units held for a thread in its slot. -/
def State.threadUnits (s : State) (x : ThreadId) : List UnitNo :=
  match (s.thread x).binding with
  | none => []
  | some k => (s.slot k).units

/-- A thread whose slot, if it has one, has a property. -/
def State.serves (s : State) (p : Slot → Bool) (x : ThreadId) : Bool := (s.serving x).any p

section Binding

variable {s : State} (h : s.bindingLaw) {x : ThreadId} {k : SlotId}

theorem State.serves_unbound (p : Slot → Bool) (hb : (s.thread x).binding = none) : s.serves p x = false := by
  simp [State.serves, State.serving, hb]

theorem State.serves_bound (p : Slot → Bool) (hb : (s.thread x).binding = some k) : s.serves p x = p (s.slot k) := by
  simp [State.serves, State.serving, hb]

theorem State.threadUnits_unbound (hb : (s.thread x).binding = none) : s.threadUnits x = [] := by
  simp [State.threadUnits, hb]

theorem State.threadUnits_bound (hb : (s.thread x).binding = some k) : s.threadUnits x = (s.slot k).units := by
  simp [State.threadUnits, hb]

theorem State.boundSlot_unbound (hb : (s.thread x).binding = none) : s.boundSlot x = none := by
  simp [State.boundSlot, hb]

theorem State.boundSlot_bound (hb : (s.thread x).binding = some k) (ht : (s.slot k).thread = some x) :
    s.boundSlot x = some k := by
  have hf : s.slot k ≠ .free := fun hf => by simp [hf, Slot.thread] at ht
  simp [State.boundSlot, hb, hf]

include h in
/-- Counting the slots bound to some threads, and counting those threads by their slots, is the same: the binding names
them to each other (01 R3). -/
theorem State.countP_slots_eq (p : Slot → Bool) (hit : ThreadId → Bool) :
    s.slots.toList.countP (fun sl => p sl && sl.thread.any hit) =
      ((List.finRange 1024).filter hit).countP (s.serves p) := by
  have hslots : s.slots.toList = slotIds.map s.slot := by
    apply List.ext_getElem
    · simp [slotIds]
    · intro i _ _
      simp [slotIds, State.slot]
  have hperm : ((slotIds.filter fun k => p (s.slot k) && (s.slot k).thread.any hit).map some).Perm
      ((((List.finRange 1024).filter hit).filter (s.serves p)).map fun x => (s.thread x).binding) := by
    refine (List.perm_ext_iff_of_nodup ?_ ?_).mpr fun b => ?_
    · exact (((List.nodup_finRange 96).filter _).map (Option.some_injective _))
    · refine List.Nodup.map_on (fun x hx y hy hxy => ?_) (((List.nodup_finRange 1024).filter _).filter _)
      cases hb : (s.thread x).binding with
      | none => simp [State.serves_unbound _ hb] at hx
      | some k => exact Option.some.inj (((h x k).mp hb).symm.trans ((h y k).mp (hxy ▸ hb)))
    · cases b with
      | none =>
        simp only [List.mem_map, List.mem_filter, reduceCtorEq, and_false, exists_false, false_iff, not_exists, not_and]
        rintro x ⟨-, hx⟩ hb
        rw [State.serves_unbound _ hb] at hx
        cases hx
      | some k =>
        simp only [List.mem_map, List.mem_filter, Option.some.injEq, exists_eq_right, slotIds, List.mem_finRange,
          true_and, Bool.and_eq_true, Option.any_eq_true]
        constructor
        · rintro ⟨hp, x, hx, hhit⟩
          have hb := (h x k).mpr hx
          exact ⟨x, ⟨hhit, by rw [State.serves_bound _ hb]; exact hp⟩, hb⟩
        · rintro ⟨x, ⟨hhit, hp⟩, hb⟩
          exact ⟨by rwa [State.serves_bound _ hb] at hp, x, (h x k).mp hb, hhit⟩
  have hlen := hperm.length_eq
  rw [List.length_map, List.length_map, ← List.countP_eq_length_filter, ← List.countP_eq_length_filter] at hlen
  rw [hslots, List.countP_map, ← hlen]
  rfl

end Binding

/-! ### The target threads (08 R128) -/

/-- The threads a CUT names, as a test of a thread: the one named, or those of the source named. -/
def cutHits (target : Byte) (id : BitVec 16) (x : ThreadId) : Bool :=
  if target = 0 then x.val == id.toNat else x.val / 16 == id.toNat

/-- Two rising lists of threads with the same members are one. -/
theorem eq_of_rising {l m : List ThreadId} (hl : l.Pairwise (· < ·)) (hm : m.Pairwise (· < ·))
    (h : ∀ x, x ∈ l ↔ x ∈ m) : l = m :=
  ((List.perm_ext_iff_of_nodup (hl.imp fun h => h.ne) (hm.imp fun h => h.ne)).mpr h).eq_of_pairwise
    (fun _ _ _ _ h h' => absurd h (not_lt_of_gt h')) hl hm

theorem filter_finRange_rising (hit : ThreadId → Bool) : ((List.finRange 1024).filter hit).Pairwise (· < ·) :=
  (List.pairwise_lt_finRange 1024).filter _

/-- A CUT in range acts on its target threads in increasing order. -/
theorem cutTargets_inRange {target : Byte} {id : BitVec 16}
    (h : target = 0 ∧ id.toNat < 1024 ∨ target = 1 ∧ id.toNat < 64) :
    cutTargets target id = some ((List.finRange 1024).filter (cutHits target id)) := by
  rcases h with ⟨rfl, hid⟩ | ⟨rfl, hid⟩
  · have hone : cutTargets 0 id = some [⟨id.toNat, hid⟩] := by
      simp [cutTargets, threadOperand, hid]
    rw [hone]
    refine congrArg some (eq_of_rising (List.pairwise_singleton _ _) (filter_finRange_rising _) fun x => ?_)
    simp [cutHits, Fin.ext_iff]
  · have hsixteen : cutTargets 1 id = some ((List.finRange 16).map (threadOf (Fin.ofNat 64 id.toNat))) := by
      simp [cutTargets, hid]
    rw [hsixteen]
    have hsource : (Fin.ofNat 64 id.toNat).val = id.toNat := Nat.mod_eq_of_lt hid
    refine congrArg some (eq_of_rising ?_ (filter_finRange_rising _) fun x => ?_)
    · refine List.pairwise_map.mpr ((List.pairwise_lt_finRange 16).imp fun {i j} hij => ?_)
      show _ * 16 + i.val < _ * 16 + j.val
      omega
    · simp only [List.mem_map, List.mem_finRange, true_and, List.mem_filter, cutHits, Fin.ext_iff, threadOf, hsource]
      constructor
      · rintro ⟨i, hi⟩
        have := i.isLt
        simp only [show ¬ ((1 : Byte) = 0) by decide, if_false, beq_iff_eq]
        omega
      · intro hx
        simp only [show ¬ ((1 : Byte) = 0) by decide, if_false, beq_iff_eq] at hx
        exact ⟨⟨x.val % 16, Nat.mod_lt _ (by omega)⟩, by show _ * 16 + x.val % 16 = _; omega⟩

theorem cutTargets_outOfRange {target : Byte} {id : BitVec 16}
    (h : ¬ (target = 0 ∧ id.toNat < 1024 ∨ target = 1 ∧ id.toNat < 64)) : cutTargets target id = none := by
  unfold cutTargets
  split
  · next ht =>
    have h0 : target = 0 := BitVec.eq_of_toNat_eq ht
    have hid : ¬ id.toNat < 1024 := fun hid => h (.inl ⟨h0, hid⟩)
    simp [threadOperand, hid]
  · next ht =>
    have h1 : target = 1 := BitVec.eq_of_toNat_eq ht
    exact if_neg fun hid => h (.inr ⟨h1, hid⟩)
  · rfl

/-! ### SKIP (08 R129) -/

/-- A slot after a CUT with SKIP of its thread: an ASSEMBLING one SKIPPING with its stamp kept, any other as it is. -/
def Slot.cutSkipped : Slot → Slot
  | .free => .free
  | .assembling x p a => .skipping x p a.parcelTag .cut
  | .skipping x p g r => .skipping x p g r
  | .resting x p y => .resting x p y

/-- A parcel is being assembled. -/
def Slot.assembles (v : Slot) : Bool := v.state == .assembling

theorem Slot.cutSkipped_of_not_assembles {v : Slot} (h : v.assembles = false) : v.cutSkipped = v := by
  cases v with
  | assembling x p a => simp [Slot.assembles, Slot.state] at h
  | _ => rfl

theorem Slot.units_of_not_assembles {v : Slot} (h : v.assembles = false) : v.units = [] := by
  cases v with
  | assembling x p a => simp [Slot.assembles, Slot.state] at h
  | _ => rfl

/-- What a CUT with SKIP has made of a state when the threads `done` are done with and `n` parcels cut. -/
structure State.SkippedTo (s z : State) (done : List ThreadId) (n : Nat) : Prop where
  cut : ∀ k, ∀ x ∈ done, (s.slot k).thread = some x → z.slot k = (s.slot k).cutSkipped
  slots : ∀ k, (∀ x ∈ done, (s.slot k).thread ≠ some x) → z.slot k = s.slot k
  count : n = done.countP (s.serves Slot.assembles)
  parcels : z.parcels .cut = s.parcels .cut + BitVec.ofNat 32 n
  freeList : z.store.freeList = s.store.freeList ++ done.flatMap s.threadUnits
  threads : z.threads = s.threads
  lanes : z.lanes = s.lanes
  reports : z.slotReports = s.slotReports
  mode : z.mode = s.mode
  octets : z.store.octets = s.store.octets
  aging : z.aging = s.aging

section Skip

variable {s z : State} {done : List ThreadId} {n : Nat} {x : ThreadId} {k : SlotId}

theorem State.SkippedTo.nil (s : State) : s.SkippedTo s [] 0 :=
  ⟨nofun, fun _ _ => rfl, rfl, (BitVec.add_zero _).symm, (List.append_nil _).symm, rfl, rfl, rfl, rfl, rfl, rfl⟩

theorem State.cutSkipThread_unbound (n : Nat) (h : z.boundSlot x = none) : State.cutSkipThread (z, n) x = (z, n) := by
  simp [State.cutSkipThread, h]

theorem State.cutSkipThread_other (n : Nat) (h : z.boundSlot x = some k) (hk : (z.slot k).assembles = false) :
    State.cutSkipThread (z, n) x = (z, n) := by
  unfold State.cutSkipThread
  rw [h]
  cases hs : z.slot k with
  | assembling t p a => simp [hs, Slot.assembles, Slot.state] at hk
  | _ => simp only [hs]

theorem State.cutSkipThread_assembling (n : Nat) {t : ThreadId} {p : PeriodNo} {a : Assembly}
    (h : z.boundSlot x = some k) (hk : z.slot k = .assembling t p a) :
    State.cutSkipThread (z, n) x = (z.poison k t p a.units a.parcelTag .cut, n + 1) := by
  simp [State.cutSkipThread, h, hk]

/-- A thread without a parcel being assembled is passed over. -/
theorem State.SkippedTo.passed (hz : s.SkippedTo z done n) (hserves : s.serves Slot.assembles x = false)
    (hunits : s.threadUnits x = []) (hsame : ∀ k, (s.slot k).thread = some x → z.slot k = (s.slot k).cutSkipped) :
    s.SkippedTo z (done ++ [x]) n where
  cut k y hy hky := by
    rcases List.mem_append.mp hy with hy | hy
    · exact hz.cut k y hy hky
    · obtain rfl := List.mem_singleton.mp hy
      exact hsame k hky
  slots k hk := hz.slots k fun y hy => hk y (by simp [hy])
  count := by simp [hz.count, hserves]
  parcels := hz.parcels
  freeList := by simp [hz.freeList, hunits]
  threads := hz.threads
  lanes := hz.lanes
  reports := hz.reports
  mode := hz.mode
  octets := hz.octets
  aging := hz.aging

/-- A thread whose slot assembles a parcel has it poisoned with CUT. -/
theorem State.SkippedTo.poisoned (h : s.bindingLaw) (hz : s.SkippedTo z done n) {p : PeriodNo} {a : Assembly}
    (hb : (s.thread x).binding = some k) (hk : s.slot k = .assembling x p a) :
    s.SkippedTo (z.poison k x p a.units a.parcelTag .cut) (done ++ [x]) (n + 1) where
  cut j y hy hjy := by
    by_cases hj : j = k
    · subst hj
      rw [State.slot_poison_self, hk]
      rfl
    · rw [State.slot_poison_ne _ _ _ _ _ _ _ _ hj]
      rcases List.mem_append.mp hy with hy | hy
      · exact hz.cut j y hy hjy
      · obtain rfl := List.mem_singleton.mp hy
        exact absurd (Option.some.inj (((h y j).mpr hjy).symm.trans hb)) hj
  slots j hj := by
    have hjk : j ≠ k := by
      rintro rfl
      exact hj x (by simp) (by rw [hk]; rfl)
    rw [State.slot_poison_ne _ _ _ _ _ _ _ _ hjk]
    exact hz.slots j fun y hy => hj y (by simp [hy])
  count := by
    have hserves : s.serves Slot.assembles x = true := by
      rw [State.serves_bound _ hb, hk]
      rfl
    simp [hz.count, hserves]
  parcels := by
    have hself := State.parcels_poison_self z k x p a.units a.parcelTag .cut
    rw [show PoisonReason.cut.counter = ParcelCounter.cut from rfl, hz.parcels] at hself
    rw [hself, BitVec.ofNat_add, BitVec.add_assoc]
    rfl
  freeList := by
    have hunits : s.threadUnits x = a.units := by rw [State.threadUnits_bound hb, hk]; rfl
    rw [State.poison_freeList, hz.freeList, List.flatMap_append, List.flatMap_singleton, hunits, List.append_assoc]
  threads := (State.poison_threads _ _ _ _ _ _ _).trans hz.threads
  lanes := (State.poison_lanes _ _ _ _ _ _ _).trans hz.lanes
  reports := (State.poison_slotReports _ _ _ _ _ _ _).trans hz.reports
  mode := (State.poison_mode _ _ _ _ _ _ _).trans hz.mode
  octets := (State.poison_octets _ _ _ _ _ _ _).trans hz.octets
  aging := (State.poison_aging _ _ _ _ _ _ _).trans hz.aging

/-- One thread more (08 R129). -/
theorem State.SkippedTo.step (h : s.bindingLaw) (hz : s.SkippedTo z done n) (hx : x ∉ done) :
    s.SkippedTo (State.cutSkipThread (z, n) x).1 (done ++ [x]) (State.cutSkipThread (z, n) x).2 := by
  have hthread := State.thread_congr s z x hz.threads
  cases hb : (s.thread x).binding with
  | none =>
    rw [State.cutSkipThread_unbound n (State.boundSlot_unbound (by rw [hthread, hb]))]
    exact hz.passed (State.serves_unbound _ hb) (State.threadUnits_unbound hb) fun k hk => by
      cases hb.symm.trans ((h x k).mpr hk)
  | some k =>
    have hk := (h x k).mp hb
    have honly : ∀ j, (s.slot j).thread = some x → j = k := fun j hj => Option.some.inj (((h x j).mpr hj).symm.trans hb)
    have hslot : z.slot k = s.slot k := hz.slots k fun y hy hky =>
      hx (Option.some.inj (hk.symm.trans hky) ▸ hy)
    have hbound : z.boundSlot x = some k := State.boundSlot_bound (by rw [hthread, hb]) (by rw [hslot, hk])
    cases ha : (s.slot k).assembles with
    | false =>
      rw [State.cutSkipThread_other n hbound (by rw [hslot, ha])]
      refine hz.passed (by rw [State.serves_bound _ hb, ha])
        (by rw [State.threadUnits_bound hb, Slot.units_of_not_assembles ha]) fun j hj => ?_
      rw [honly j hj, hslot, Slot.cutSkipped_of_not_assembles ha]
    | true =>
      cases hs : s.slot k with
      | assembling t p a =>
        obtain rfl : t = x := by simpa [hs, Slot.thread] using hk
        rw [State.cutSkipThread_assembling n hbound (hslot.trans hs)]
        exact hz.poisoned h hb hs
      | _ => simp [hs, Slot.assembles, Slot.state] at ha

/-- All target threads, one after another (08 R128). -/
theorem State.foldl_cutSkip_skippedTo (h : s.bindingLaw) (ts : List ThreadId) (hts : ts.Nodup) :
    s.SkippedTo (ts.foldl State.cutSkipThread (s, 0)).1 ts (ts.foldl State.cutSkipThread (s, 0)).2 := by
  induction ts using List.reverseRecOn with
  | nil => exact State.SkippedTo.nil s
  | append_singleton ts x ih =>
    obtain ⟨hnodup, -, hdisjoint⟩ := List.nodup_append.mp hts
    rw [List.foldl_append]
    exact (ih hnodup).step h fun hx => hdisjoint x hx x (by simp) rfl

end Skip

/-! ### RELEASE (08 R130) -/

/-- A thread's entry after a CUT with RELEASE: unbound, and a pending configuration applied where a parcel was in
progress. -/
def ThreadEntry.cutReleased (e : ThreadEntry) (busy : Bool) : ThreadEntry :=
  if busy = true then { active := e.pending.getD e.active, pending := none, binding := none }
  else { e with binding := none }

/-- What the release of the slot of one thread makes of a state, `n` parcels being cut by it. -/
structure State.FreedTo (z w : State) (k : SlotId) (x : ThreadId) (n : Nat) : Prop where
  slot : w.slot k = .free
  slots : ∀ j, j ≠ k → w.slot j = z.slot j
  thread : w.thread x = (z.thread x).cutReleased (z.slot k).busy
  threads : ∀ y, y ≠ x → w.thread y = z.thread y
  parcels : w.parcels .cut = z.parcels .cut + BitVec.ofNat 32 n
  freeList : w.store.freeList = z.store.freeList ++ (z.slot k).units
  reports : w.slotReports = z.slotReports + n
  lanes : w.lanes = z.lanes
  mode : w.mode = z.mode
  octets : w.store.octets = z.store.octets
  aging : w.aging = z.aging

/-- What a CUT with RELEASE has made of a state when the threads `done` are done with, `m` counting the parcels cut and the
slots released. -/
structure State.CutReleasedTo (s z : State) (done : List ThreadId) (m : Nat × Nat) : Prop where
  freed : ∀ k, ∀ x ∈ done, (s.slot k).thread = some x →
    z.slot k = .free ∧ z.thread x = (s.thread x).cutReleased (s.slot k).busy
  slots : ∀ k, (∀ x ∈ done, (s.slot k).thread ≠ some x) → z.slot k = s.slot k
  threads : ∀ x, x ∉ done ∨ (s.thread x).binding = none → z.thread x = s.thread x
  cut : m.1 = done.countP (s.serves Slot.busy)
  released : m.2 = done.countP (s.serves fun _ => true)
  parcels : z.parcels .cut = s.parcels .cut + BitVec.ofNat 32 m.1
  freeList : z.store.freeList = s.store.freeList ++ done.flatMap s.threadUnits
  reports : z.slotReports = s.slotReports + m.1
  lanes : z.lanes = s.lanes
  mode : z.mode = s.mode
  octets : z.store.octets = s.store.octets
  aging : z.aging = s.aging

section Release

variable {s z w : State} {done : List ThreadId} {m : Nat × Nat} {x : ThreadId} {k : SlotId}

theorem State.CutReleasedTo.nil (s : State) : s.CutReleasedTo s [] (0, 0) :=
  ⟨nofun, fun _ _ => rfl, fun _ _ => rfl, rfl, rfl, (BitVec.add_zero _).symm, (List.append_nil _).symm, rfl, rfl, rfl, rfl,
    rfl⟩

theorem State.cutReleaseThread_unbound (m : Nat × Nat) (h : z.boundSlot x = none) :
    State.cutReleaseThread (z, m) x = (z, m) := by
  simp [State.cutReleaseThread, h]

/-- A parcel in progress is cut: its slot released, a notice raised and the parcel counted. -/
theorem State.cutReleaseThread_busy (m : Nat × Nat) (h : z.boundSlot x = some k) (hb : (z.slot k).busy = true)
    (ht : (z.slot k).thread = some x) : ∃ w, z.FreedTo w k x 1 ∧
      State.cutReleaseThread (z, m) x = (w, m.1 + 1, m.2 + 1) := by
  refine ⟨((z.releaseSlot k).raise .cut (z.slot k).thread (z.slot k).noticeTag none none).bumpParcel .cut, ?_,
    by simp [State.cutReleaseThread, h, hb]⟩
  refine ⟨?_, fun j hj => ?_, ?_, fun y hy => ?_, ?_, ?_, ?_, ?_, ?_, ?_, ?_⟩
  · simpa using State.releaseSlot_slot_self hb ht
  · simpa using State.releaseSlot_slot_ne hb ht hj
  · simpa [ThreadEntry.cutReleased, hb] using State.releaseSlot_thread_self hb ht
  · simpa using State.releaseSlot_thread_ne hb ht hy
  · rw [State.parcels_bumpParcel_self, State.parcels_raise, State.parcels_releaseSlot]
    rfl
  · simpa using State.releaseSlot_freeList hb ht
  · simpa using State.releaseSlot_slotReports hb ht
  · simp
  · simp
  · simp
  · simp

/-- A RESTING slot is only released. -/
theorem State.cutReleaseThread_idle (m : Nat × Nat) (h : z.boundSlot x = some k) (hb : (z.slot k).busy = false)
    (ht : (z.slot k).thread = some x) : ∃ w, z.FreedTo w k x 0 ∧
      State.cutReleaseThread (z, m) x = (w, m.1, m.2 + 1) := by
  have hrelease : z.releaseSlot k = z.freeSlot k x ∧ (z.slot k).units = [] := by
    unfold State.releaseSlot
    cases hs : z.slot k with
    | resting t p y =>
      obtain rfl : t = x := by simpa [hs, Slot.thread] using ht
      exact ⟨rfl, rfl⟩
    | free => simp [hs, Slot.thread] at ht
    | _ => simp [hs, Slot.busy] at hb
  obtain ⟨hfree, hunits⟩ := hrelease
  refine ⟨z.freeSlot k x, ⟨?_, fun j hj => State.slot_freeSlot_ne _ _ _ _ hj, ?_,
    fun y hy => State.thread_freeSlot_ne _ _ _ _ hy, (BitVec.add_zero _).symm, ?_, rfl, rfl, rfl, rfl, rfl⟩, ?_⟩
  · simp
  · simp [ThreadEntry.cutReleased, hb]
  · rw [hunits, List.append_nil]
    rfl
  · simp [State.cutReleaseThread, h, hb, hfree]

/-- An unbound thread is passed over. -/
theorem State.CutReleasedTo.passed (h : s.bindingLaw) (hz : s.CutReleasedTo z done m)
    (hb : (s.thread x).binding = none) : s.CutReleasedTo z (done ++ [x]) m where
  freed k y hy hky := by
    rcases List.mem_append.mp hy with hy | hy
    · exact hz.freed k y hy hky
    · obtain rfl := List.mem_singleton.mp hy
      cases hb.symm.trans ((h y k).mpr hky)
  slots k hk := hz.slots k fun y hy => hk y (by simp [hy])
  threads y hy := hz.threads y (hy.imp_left fun hn hd => hn (by simp [hd]))
  cut := by simp [hz.cut, State.serves_unbound _ hb]
  released := by simp [hz.released, State.serves_unbound _ hb]
  parcels := hz.parcels
  freeList := by simp [hz.freeList, State.threadUnits_unbound hb]
  reports := hz.reports
  lanes := hz.lanes
  mode := hz.mode
  octets := hz.octets
  aging := hz.aging

/-- A bound thread has its slot released, and its parcel counted where one was in progress. -/
theorem State.CutReleasedTo.freedNext (h : s.bindingLaw) (hz : s.CutReleasedTo z done m) (hx : x ∉ done)
    (hb : (s.thread x).binding = some k) {n : Nat} (hw : z.FreedTo w k x n)
    (hn : n = if (s.slot k).busy = true then 1 else 0) : s.CutReleasedTo w (done ++ [x]) (m.1 + n, m.2 + 1) := by
  have hk := (h x k).mp hb
  have hslot : z.slot k = s.slot k := hz.slots k fun y hy hky => hx (Option.some.inj (hk.symm.trans hky) ▸ hy)
  have hthread : z.thread x = s.thread x := hz.threads x (.inl hx)
  exact {
    freed := fun j y hy hjy => by
      rcases List.mem_append.mp hy with hy | hy
      · have hyx : y ≠ x := fun e => hx (e ▸ hy)
        have hjk : j ≠ k := by
          rintro rfl
          exact hyx (Option.some.inj (hjy.symm.trans hk))
        rw [hw.slots j hjk, hw.threads y hyx]
        exact hz.freed j y hy hjy
      · obtain rfl := List.mem_singleton.mp hy
        obtain rfl : j = k := Option.some.inj (((h y j).mpr hjy).symm.trans hb)
        exact ⟨hw.slot, by rw [hw.thread, hthread, hslot]⟩
    slots := fun j hj => by
      have hjk : j ≠ k := by
        rintro rfl
        exact hj x (by simp) hk
      rw [hw.slots j hjk]
      exact hz.slots j fun y hy => hj y (by simp [hy])
    threads := fun y hy => by
      have hyx : y ≠ x := by
        rintro rfl
        rcases hy with hy | hy
        · exact hy (by simp)
        · cases hy.symm.trans hb
      rw [hw.threads y hyx]
      exact hz.threads y (hy.imp_left fun hn hd => hn (by simp [hd]))
    cut := by
      rw [List.countP_append, List.countP_singleton, State.serves_bound _ hb, ← hn, hz.cut]
    released := by simp [hz.released, State.serves_bound _ hb]
    parcels := by rw [hw.parcels, hz.parcels, BitVec.ofNat_add, BitVec.add_assoc]
    freeList := by
      rw [hw.freeList, hz.freeList, hslot, List.flatMap_append, List.flatMap_singleton, State.threadUnits_bound hb,
        List.append_assoc]
    reports := by rw [hw.reports, hz.reports, Nat.add_assoc]
    lanes := hw.lanes.trans hz.lanes
    mode := hw.mode.trans hz.mode
    octets := hw.octets.trans hz.octets
    aging := hw.aging.trans hz.aging }

/-- One thread more (08 R130). -/
theorem State.CutReleasedTo.step (h : s.bindingLaw) (hz : s.CutReleasedTo z done m) (hx : x ∉ done) :
    s.CutReleasedTo (State.cutReleaseThread (z, m) x).1 (done ++ [x]) (State.cutReleaseThread (z, m) x).2 := by
  have hthread : z.thread x = s.thread x := hz.threads x (.inl hx)
  cases hb : (s.thread x).binding with
  | none =>
    rw [State.cutReleaseThread_unbound m (State.boundSlot_unbound (by rw [hthread, hb]))]
    exact hz.passed h hb
  | some k =>
    have hk := (h x k).mp hb
    have hslot : z.slot k = s.slot k := hz.slots k fun y hy hky => hx (Option.some.inj (hk.symm.trans hky) ▸ hy)
    have hbound : z.boundSlot x = some k := State.boundSlot_bound (by rw [hthread, hb]) (by rw [hslot, hk])
    cases hbusy : (s.slot k).busy with
    | true =>
      obtain ⟨w, hw, heq⟩ := State.cutReleaseThread_busy m hbound (by rw [hslot, hbusy]) (by rw [hslot, hk])
      rw [heq]
      exact hz.freedNext h hx hb hw (by rw [if_pos hbusy])
    | false =>
      obtain ⟨w, hw, heq⟩ := State.cutReleaseThread_idle m hbound (by rw [hslot, hbusy]) (by rw [hslot, hk])
      rw [heq]
      exact hz.freedNext h hx hb hw (by rw [if_neg (by simp [hbusy])])

/-- All target threads, one after another (08 R128). -/
theorem State.foldl_cutRelease_releasedTo (h : s.bindingLaw) (ts : List ThreadId) (hts : ts.Nodup) :
    s.CutReleasedTo (ts.foldl State.cutReleaseThread (s, 0, 0)).1 ts (ts.foldl State.cutReleaseThread (s, 0, 0)).2 := by
  induction ts using List.reverseRecOn with
  | nil => exact State.CutReleasedTo.nil s
  | append_singleton ts x ih =>
    obtain ⟨hnodup, -, hdisjoint⟩ := List.nodup_append.mp hts
    rw [List.foldl_append]
    exact (ih hnodup).step h fun hx => hdisjoint x hx x (by simp) rfl

end Release

/-! ### CUT as a ready engine answers it (08 R128) -/

theorem State.foldl_cutSkip_withEngine (ts : List ThreadId) (s : State) (e : Engine) (n : Nat) :
    ts.foldl State.cutSkipThread (s.withEngine e, n) =
      ((ts.foldl State.cutSkipThread (s, n)).1.withEngine e, (ts.foldl State.cutSkipThread (s, n)).2) := by
  induction ts generalizing s n with
  | nil => rfl
  | cons t ts ih => rw [List.foldl_cons, State.cutSkipThread_withEngine, ih, List.foldl_cons]

theorem State.foldl_cutRelease_withEngine (ts : List ThreadId) (s : State) (e : Engine) (m : Nat × Nat) :
    ts.foldl State.cutReleaseThread (s.withEngine e, m) =
      ((ts.foldl State.cutReleaseThread (s, m)).1.withEngine e, (ts.foldl State.cutReleaseThread (s, m)).2) := by
  induction ts generalizing s m with
  | nil => rfl
  | cons t ts ih => rw [List.foldl_cons, State.cutReleaseThread_withEngine, ih, List.foldl_cons]

/-- The CUT request of a disposition. -/
def cutRequest (num : BitVec 16) (target : Byte) (id : BitVec 16) (disposition : Byte) : Request :=
  requestWith num 0x06 (target :: fieldOctets id ++ [disposition])

theorem cutRequest_field (num : BitVec 16) (target : Byte) (id : BitVec 16) (d : Byte) :
    (cutRequest num target id d).field 4 = id := fieldOctets_join id

theorem State.doCut_range (s : State) {num id : BitVec 16} {target : Byte} (d : Byte)
    (ht : cutTargets target id = none) :
    s.doCut (cutRequest num target id d) = s.answer (cutRequest num target id d) .range .empty := by
  unfold State.doCut
  rw [cutRequest_field, show (cutRequest num target id d).octet 3 = target from rfl, ht]
  rfl

theorem State.doCut_skip (s : State) {num id : BitVec 16} {target : Byte} {ts : List ThreadId}
    (ht : cutTargets target id = some ts) :
    s.doCut (cutRequest num target id 0x00) =
      (ts.foldl State.cutSkipThread (s, 0)).1.settleReturns.answer (cutRequest num target id 0x00)
        (cutStatus (ts.foldl State.cutSkipThread (s, 0)).2) (.cut (ts.foldl State.cutSkipThread (s, 0)).2 0) := by
  unfold State.doCut
  rw [cutRequest_field, show (cutRequest num target id 0x00).octet 3 = target from rfl, ht]
  rfl

theorem State.doCut_release (s : State) {num id : BitVec 16} {target : Byte} {ts : List ThreadId}
    (ht : cutTargets target id = some ts) :
    s.doCut (cutRequest num target id 0x01) =
      (ts.foldl State.cutReleaseThread (s, 0, 0)).1.settleReturns.answer (cutRequest num target id 0x01)
        (cutStatus (ts.foldl State.cutReleaseThread (s, 0, 0)).2.1)
        (.cut (ts.foldl State.cutReleaseThread (s, 0, 0)).2.1 (ts.foldl State.cutReleaseThread (s, 0, 0)).2.2) := by
  unfold State.doCut
  rw [cutRequest_field, show (cutRequest num target id 0x01).octet 3 = target from rfl, ht]
  rfl

section Answers

variable {s : State} {num id : BitVec 16} {target : Byte} (h : s.ready)

include h

/-- A ready engine takes a CUT at once and carries it out with the place of its reply reserved. -/
theorem State.requestArrives_cut (d : Byte) :
    s.requestArrives (cutRequest num target id d) =
      (s.withEngine { s.engine with reserved := true }).doCut (cutRequest num target id d) :=
  State.requestArrives_ready s _ h

theorem exec_cutSkip_range (ht : cutTargets target id = none) :
    exec (.cutSkip num target id) s = .next (s.queueReply ⟨num, 0x06, .range, .empty⟩) := by
  show Host.Outcome.next (s.requestArrives (cutRequest num target id 0x00)) = _
  rw [State.requestArrives_cut h, State.doCut_range _ _ ht]
  exact congrArg _ (State.answer_ready s s _ _ _ h rfl)

theorem exec_cutRelease_range (ht : cutTargets target id = none) :
    exec (.cutRelease num target id) s = .next (s.queueReply ⟨num, 0x06, .range, .empty⟩) := by
  show Host.Outcome.next (s.requestArrives (cutRequest num target id 0x01)) = _
  rw [State.requestArrives_cut h, State.doCut_range _ _ ht]
  exact congrArg _ (State.answer_ready s s _ _ _ h rfl)

theorem exec_cutSkip_done {ts : List ThreadId} (ht : cutTargets target id = some ts) :
    exec (.cutSkip num target id) s =
      .next ((ts.foldl State.cutSkipThread (s, 0)).1.settleReturns.queueReply
        ⟨num, 0x06, cutStatus (ts.foldl State.cutSkipThread (s, 0)).2,
          .cut (ts.foldl State.cutSkipThread (s, 0)).2 0⟩) := by
  show Host.Outcome.next (s.requestArrives (cutRequest num target id 0x00)) = _
  rw [State.requestArrives_cut h, State.doCut_skip _ ht, State.foldl_cutSkip_withEngine,
    State.settleReturns_withEngine]
  exact congrArg _ (State.answer_ready s _ _ _ _ h ((State.settleReturns_engine _).trans
    (State.foldl_cutSkip_engine ts (s, 0))))

theorem exec_cutRelease_done {ts : List ThreadId} (ht : cutTargets target id = some ts) :
    exec (.cutRelease num target id) s =
      .next ((ts.foldl State.cutReleaseThread (s, 0, 0)).1.settleReturns.queueReply
        ⟨num, 0x06, cutStatus (ts.foldl State.cutReleaseThread (s, 0, 0)).2.1,
          .cut (ts.foldl State.cutReleaseThread (s, 0, 0)).2.1 (ts.foldl State.cutReleaseThread (s, 0, 0)).2.2⟩) := by
  show Host.Outcome.next (s.requestArrives (cutRequest num target id 0x01)) = _
  rw [State.requestArrives_cut h, State.doCut_release _ ht, State.foldl_cutRelease_withEngine,
    State.settleReturns_withEngine]
  exact congrArg _ (State.answer_ready s _ _ _ _ h ((State.settleReturns_engine _).trans
    (State.foldl_cutRelease_engine ts (s, 0, 0))))

end Answers

theorem mem_filter_finRange {hit : ThreadId → Bool} {x : ThreadId} :
    x ∈ (List.finRange 1024).filter hit ↔ hit x = true := by
  simp

/-- A slot bound to none of some threads. -/
theorem Slot.thread_ne_of_any {hit : ThreadId → Bool} {v : Slot} (hv : v.thread.any hit = false) :
    ∀ x ∈ (List.finRange 1024).filter hit, v.thread ≠ some x := fun x hx hvx => by
  simp [hvx, mem_filter_finRange.mp hx] at hv

/-- A slot in which no parcel is assembled, or whose thread is no target, is left by a CUT with SKIP (08 R129). -/
theorem State.SkippedTo.slot_left {s z : State} {hit : ThreadId → Bool} {n : Nat}
    (hz : s.SkippedTo z ((List.finRange 1024).filter hit) n) {k : SlotId}
    (hk : (s.slot k).state ≠ .assembling ∨ (s.slot k).thread.any hit = false) : z.slot k = s.slot k := by
  rcases Bool.eq_false_or_eq_true ((s.slot k).thread.any hit) with hany | hany
  · obtain ⟨x, hx, hhit⟩ := (Option.any_eq_true _ _).mp hany
    have hstate : (s.slot k).state ≠ .assembling := hk.resolve_right (by simp [hany])
    rw [hz.cut k x (mem_filter_finRange.mpr hhit) hx,
      Slot.cutSkipped_of_not_assembles (by simpa [Slot.assembles] using hstate)]
  · exact hz.slots k (Slot.thread_ne_of_any hany)

end Sys2Proof.Machine

open Sys2Proof Sys2Proof.Machine

/-- Settles O56: it holds. The target threads are folded over in rising order, and the fold's invariant says what has become
of the slots and threads done with; its counts are taken over threads, which the binding turns into counts of slots. -/
theorem cutActsOnTheTargetThreads : Obligations.CutActsOnTheTargetThreads := by
  intro s num id target h inRange hit unitsOf returned among status
  have hts : ((List.finRange 1024).filter hit).Nodup := (List.nodup_finRange 1024).filter hit
  refine ⟨fun hout => ?_, fun hin _ hbind => ⟨?skip, ?release⟩⟩
  · exact ⟨exec_cutSkip_range h (cutTargets_outOfRange hout), exec_cutRelease_range h (cutTargets_outOfRange hout)⟩
  case skip =>
    have hexec := exec_cutSkip_done (num := num) (ts := (List.finRange 1024).filter hit) h (cutTargets_inRange hin)
    have hz := State.foldl_cutSkip_skippedTo hbind _ hts
    have hengine := State.foldl_cutSkip_engine ((List.finRange 1024).filter hit) (s, 0)
    generalize ((List.finRange 1024).filter hit).foldl State.cutSkipThread (s, 0) = p at hexec hz hengine
    obtain ⟨z, n⟩ := p
    have hn : n = among Slot.assembles := hz.count.trans (State.countP_slots_eq hbind Slot.assembles hit).symm
    subst hn
    refine ⟨z.settleReturns, hexec, fun k x p a hk hx => ?_, fun k hk => ?_, ?_, ?_, ?_, ?_, ?_, ?_, ?_, ?_, ?_⟩
    · rw [State.slot_settleReturns, hz.cut k x (mem_filter_finRange.mpr hx) (by rw [hk]; rfl), hk]
      rfl
    · rw [State.slot_settleReturns, hz.slot_left hk]
    · exact (State.parcels_settleReturns _ _).trans hz.parcels
    · exact (State.settleReturns_freeList _).trans hz.freeList
    · exact (State.settleReturns_threads _).trans hz.threads
    · exact (State.settleReturns_lanes _).trans hz.lanes
    · exact (State.settleReturns_slotReports _).trans hz.reports
    · exact (State.settleReturns_mode _).trans hz.mode
    · exact (State.settleReturns_octets _).trans hz.octets
    · exact (State.settleReturns_aging _).trans hz.aging
    · exact (State.settleReturns_engine _).trans hengine
  case release =>
    have hexec := exec_cutRelease_done (num := num) (ts := (List.finRange 1024).filter hit) h (cutTargets_inRange hin)
    have hz := State.foldl_cutRelease_releasedTo hbind _ hts
    have hengine := State.foldl_cutRelease_engine ((List.finRange 1024).filter hit) (s, 0, 0)
    generalize ((List.finRange 1024).filter hit).foldl State.cutReleaseThread (s, 0, 0) = p at hexec hz hengine
    obtain ⟨z, n, m⟩ := p
    have hn : n = among Slot.busy := hz.cut.trans (State.countP_slots_eq hbind Slot.busy hit).symm
    have hm : m = among fun _ => true := hz.released.trans (State.countP_slots_eq hbind (fun _ => true) hit).symm
    subst hn hm
    refine ⟨z.settleReturns, hexec, fun k x hk hx => ?_, fun k hk => ?_, fun x hx => ?_, ?_, ?_, ?_, ?_, ?_, ?_, ?_, ?_⟩
    · rw [State.slot_settleReturns, State.thread_settleReturns]
      exact hz.freed k x (mem_filter_finRange.mpr hx) hk
    · rw [State.slot_settleReturns, hz.slots k (Slot.thread_ne_of_any hk)]
    · rw [State.thread_settleReturns]
      exact hz.threads x (hx.imp_left fun hno hmem => by simp [mem_filter_finRange.mp hmem] at hno)
    · exact (State.parcels_settleReturns _ _).trans hz.parcels
    · exact (State.settleReturns_freeList _).trans hz.freeList
    · exact (State.settleReturns_slotReports _).trans hz.reports
    · exact (State.settleReturns_lanes _).trans hz.lanes
    · exact (State.settleReturns_mode _).trans hz.mode
    · exact (State.settleReturns_octets _).trans hz.octets
    · exact (State.settleReturns_aging _).trans hz.aging
    · exact (State.settleReturns_engine _).trans hengine

end

section
/-! SUPPORT. WRITE_THREAD as a ready engine answers it: its operands read one by one, and the write by the state of the thread's slot (03 R53 to R55, 11 R164). -/

namespace Sys2Proof.Machine

/-! ### Operands and their ranges (11 R164) -/

theorem yesNo_of_le {b : Byte} (h : b.toNat ≤ 1) : yesNo b = some (b == 1) := by
  have hb : b = 0 ∨ b = 1 := by bv_omega
  rcases hb with rfl | rfl <;> rfl

theorem le_of_yesNo {b : Byte} {a : Bool} (h : yesNo b = some a) : b.toNat ≤ 1 := by
  unfold yesNo at h
  split at h
  · omega
  · omega
  · cases h

theorem fourOperand_of_le {b : Byte} (h : b.toNat ≤ 3) : fourOperand b = some (Fin.ofNat 4 b.toNat) := by
  have hb : b.toNat < 4 := by omega
  simp only [fourOperand, dif_pos hb, Option.some.injEq]
  exact Fin.ext (Nat.mod_eq_of_lt hb).symm

theorem le_of_fourOperand {b : Byte} {n : Fin 4} (h : fourOperand b = some n) : b.toNat ≤ 3 := by
  unfold fourOperand at h
  split at h
  · omega
  · cases h

theorem threadOperand_of_toNat {v : BitVec 16} {x : ThreadId} (h : v.toNat = x.val) : threadOperand v = some x := by
  simp [threadOperand, h]

/-- The configuration octets of a request, each in its range (03 R49, 11 R164). -/
def Request.configInRange (q : Request) : Prop :=
  (q.octet 5).toNat ≤ 1 ∧ (q.octet 6).toNat ≤ 3 ∧ (q.octet 7).toNat ≤ 3 ∧ 1 ≤ (q.octet 8).toNat ∧
    (q.octet 8).toNat ≤ 160 ∧ (q.octet 9).toNat ≤ 15 ∧ 1 ≤ (q.octet 10).toNat ∧ (q.octet 11).toNat ≤ 1 ∧
    (q.octet 12).toNat ≤ 1

theorem configOperands_of_inRange {q : Request} (h : q.configInRange) : configOperands q =
    some ⟨q.octet 5 == 1, Fin.ofNat 4 (q.octet 6).toNat, Fin.ofNat 4 (q.octet 7).toNat, (q.octet 8).toNat,
      (q.octet 9).toNat, (q.octet 10).toNat, q.octet 11 == 1, q.octet 12 == 1⟩ := by
  obtain ⟨henabled, hcls, hlane, hlimit, hlimit', hwindow, htimeout, hretain, hverify⟩ := h
  unfold configOperands
  rw [yesNo_of_le henabled, fourOperand_of_le hcls, fourOperand_of_le hlane, yesNo_of_le hretain, yesNo_of_le hverify]
  exact if_pos ⟨hlimit, hlimit', hwindow, htimeout⟩

/-- A configuration is read only from octets that are all in range (03 R53). -/
theorem Request.configInRange_of_configOperands {q : Request} {c : ThreadConfig} (h : configOperands q = some c) :
    q.configInRange := by
  unfold configOperands at h
  split at h
  · next henabled hcls hlane hretain hverify =>
    split at h
    · next hnumbers =>
      obtain ⟨hlimit, hlimit', hwindow, htimeout⟩ := hnumbers
      exact ⟨le_of_yesNo henabled, le_of_fourOperand hcls, le_of_fourOperand hlane, hlimit, hlimit', hwindow, htimeout,
        le_of_yesNo hretain, le_of_yesNo hverify⟩
    · cases h
  · cases h

/-! ### The write by the thread's slot (03 R54, R55) -/

theorem State.setThread_setThread (s : State) (x : ThreadId) (a b : ThreadEntry) :
    (s.setThread x a).setThread x b = s.setThread x b := by
  simp [State.setThread]

section Writes

variable {s : State} (q : Request) {x : ThreadId} (c : ThreadConfig) {k : SlotId}

theorem State.writeThread_unbound (hb : (s.thread x).binding = none) :
    s.writeThread q x c = (s.setThread x { s.thread x with active := c }).decline q .done := by
  unfold State.writeThread
  rw [State.boundSlot_unbound hb]
  rfl

variable (hb : (s.thread x).binding = some k) {t : ThreadId} {p : PeriodNo}

include hb

theorem State.writeThread_resting_kept {e : Seq} (hk : s.slot k = .resting t p e)
    (hc : (c.enabled && c.retain) = true) :
    s.writeThread q x c = (s.setThread x { s.thread x with active := c }).decline q .done := by
  simp [State.writeThread, State.boundSlot, hb, hk, hc, State.writeActive]

/-- The write that clears enabled or retain releases a RESTING slot (03 R54). -/
theorem State.writeThread_resting_released {e : Seq} (hk : s.slot k = .resting t p e)
    (hc : (c.enabled && c.retain) = false) :
    s.writeThread q x c = ((s.setThread x { s.thread x with active := c, binding := none }).setSlot k .free).decline q
      .done := by
  simp [State.writeThread, State.boundSlot, hb, hk, hc, State.writeActive, State.freeSlot, State.setBinding,
    State.setThread_setThread]

/-- With a parcel in progress the write is stored, in place of a configuration that was pending (03 R55). -/
theorem State.writeThread_busy (hk : (s.slot k).busy = true) :
    s.writeThread q x c = (s.setThread x { s.thread x with pending := some c }).decline q
      (if (s.thread x).pending = none then .stored else .replaced) := by
  have hstored : s.writeThread q x c = s.storePending q x c := by
    cases hslot : s.slot k with
    | free => simp [hslot, Slot.busy] at hk
    | assembling t p a => simp [State.writeThread, State.boundSlot, hb, hslot]
    | skipping t p g z => simp [State.writeThread, State.boundSlot, hb, hslot]
    | resting t p e => simp [hslot, Slot.busy] at hk
  rw [hstored, State.storePending]
  cases (s.thread x).pending <;> rfl

end Writes

/-! ### The answer of a ready engine (08 R122, R123) -/

/-- The WRITE_THREAD request of a thread and eight configuration octets (11 R164). -/
def writeThreadRequest (num v : BitVec 16) (e c l m w o r y : Byte) : Request :=
  requestWith num 0x04 (fieldOctets v ++ [e, c, l, m, w, o, r, y])

section Answers

variable {s : State} {num v : BitVec 16} {e c l m w o r y : Byte} (h : s.ready)

theorem writeThreadRequest_field : (writeThreadRequest num v e c l m w o r y).field 3 = v := fieldOctets_join v

include h

/-- A ready engine takes a WRITE_THREAD at once; what it carries out with the place of its reply reserved is answered. -/
theorem exec_writeThread_answers (t : State) (st : Status) (ht : t.engine = s.engine)
    (hw : (s.withEngine { s.engine with reserved := true }).doWriteThread (writeThreadRequest num v e c l m w o r y) =
      (t.withEngine { s.engine with reserved := true }).decline (writeThreadRequest num v e c l m w o r y) st) :
    exec (.writeThread num v e c l m w o r y) s = .next (t.queueReply ⟨num, 0x04, st, .empty⟩) := by
  show Host.Outcome.next (s.requestArrives (writeThreadRequest num v e c l m w o r y)) = _
  rw [State.requestArrives_ready s _ h]
  exact congrArg _ (hw.trans (State.answer_ready s t _ st .empty h ht))

theorem exec_writeThread_range
    (hout : threadOperand v = none ∨ ¬ (writeThreadRequest num v e c l m w o r y).configInRange) :
    exec (.writeThread num v e c l m w o r y) s = .next (s.queueReply ⟨num, 0x04, .range, .empty⟩) := by
  refine exec_writeThread_answers h s .range rfl ?_
  unfold State.doWriteThread
  rw [writeThreadRequest_field]
  split
  · next hx hc =>
    rcases hout with hv | hcfg
    · exact absurd (hv.symm.trans hx) nofun
    · exact absurd (Request.configInRange_of_configOperands hc) hcfg
  · rfl

/-- With every operand in range the answer is that of the write. -/
theorem exec_writeThread_writes {x : ThreadId} (t : State) (st : Status) (hv : v.toNat = x.val)
    (hcfg : (writeThreadRequest num v e c l m w o r y).configInRange) (ht : t.engine = s.engine)
    (hw : (s.withEngine { s.engine with reserved := true }).writeThread (writeThreadRequest num v e c l m w o r y) x
        ⟨e == 1, Fin.ofNat 4 c.toNat, Fin.ofNat 4 l.toNat, m.toNat, w.toNat, o.toNat, r == 1, y == 1⟩ =
      (t.withEngine { s.engine with reserved := true }).decline (writeThreadRequest num v e c l m w o r y) st) :
    exec (.writeThread num v e c l m w o r y) s = .next (t.queueReply ⟨num, 0x04, st, .empty⟩) := by
  refine exec_writeThread_answers h t st ht ?_
  unfold State.doWriteThread
  rw [writeThreadRequest_field, threadOperand_of_toNat hv, configOperands_of_inRange hcfg]
  exact hw

end Answers

end Sys2Proof.Machine

open Sys2Proof Sys2Proof.Machine

/-- Settles O55: it holds. Out of range, one operand is not read and RANGE is answered; in range, the write goes by the
binding of the thread and the state of its slot. -/
theorem writeThreadIsAppliedOrStored : Obligations.WriteThreadIsAppliedOrStored := by
  intro s num x v e c l m w o r y h inRange cfg wrote answered applied stored
  refine ⟨fun hout => exec_writeThread_range h ?_, fun hin hv => ?_⟩
  · by_cases hv : v.toNat < 1024
    · exact .inr fun hcfg => hout ⟨hv, hcfg⟩
    · exact .inl (threadOperand_none v (Nat.not_lt.mp hv))
  have writes := fun t st => exec_writeThread_writes (num := num) h t st hv hin.2
  refine ⟨fun hb => ?unbound, fun k hb => ?bound⟩
  case unbound => exact writes _ _ rfl (State.writeThread_unbound _ cfg hb)
  case bound =>
    have hstored : (s.slot k).busy = true → stored := fun hk =>
      writes _ _ rfl (State.writeThread_busy _ cfg hb hk)
    refine ⟨fun t₀ p q hk he hr => ?kept, fun t₀ p q hk hne => ?released, fun t₀ p a hk => ?assembling,
      fun t₀ p g z hk => ?skipping⟩
    case kept => exact writes _ _ rfl (State.writeThread_resting_kept _ cfg hb hk (by simp [cfg, he, hr]))
    case released =>
      have hc : (cfg.enabled && cfg.retain) = false :=
        Bool.and_eq_false_iff.mpr (hne.imp beq_eq_false_iff_ne.mpr beq_eq_false_iff_ne.mpr)
      exact writes _ _ rfl (State.writeThread_resting_released _ cfg hb hk hc)
    case assembling => exact hstored (by rw [hk]; rfl)
    case skipping => exact hstored (by rw [hk]; rfl)

end

section
/-! SUPPORT. What the steps of a restart do: the lanes emptied one after another, and the store rebuilt with its congestion changes handed on (06 R106, 04 R80, 09 R146). -/

namespace Sys2Proof.Machine

/-! ### One lane (06 R106) -/

theorem LaneState.afterRestart_of_stopped {st : LaneState} (h : st = .stopped ∨ st = .stopping) :
    st.afterRestart = .stopped := by
  rcases h with rfl | rfl <;> rfl

theorem LaneState.afterRestart_of_started {st : LaneState} (h : st ≠ .stopped ∧ st ≠ .stopping) :
    st.afterRestart = .idle := by
  cases st with
  | stopped => exact absurd rfl h.1
  | stopping => exact absurd rfl h.2
  | idle => rfl
  | waiting => rfl
  | sending => rfl

/-- A lane emptied by a restart, its record of the last frame aside (06 R106). -/
def Lane.emptied (l : Lane) : Lane :=
  { l with queue := [], emission := none, credit := 0, stallTimer := none, state := l.state.afterRestart }

/-- A restart of a lane that sends no frame. -/
theorem State.restartLane_silent {s : State} {n : LaneId} (h : (s.lane n).emission = none) :
    s.restartLane n = s.setLane n (s.lane n).emptied := by
  unfold State.restartLane
  dsimp only
  rw [h]
  rfl

/-- The record of a frame that a restart cuts: what has been sent of it is a free value (06 R106, log entries 9 and 11). -/
def State.cutFrame (s : State) (d : Descriptor) : LastFrame :=
  .aborted ((s.frameOctets d).take (Config.octetsSent s.freeIndex))

/-- A restart of a lane that sends a frame. -/
theorem State.restartLane_sending {s : State} {n : LaneId} {d : Descriptor} (h : (s.lane n).emission = some d) :
    s.restartLane n =
      { (s.setLane n { (s.lane n).emptied with lastFrame := s.cutFrame d }).bumpLane n .aborted 1 with
        freeIndex := s.freeIndex + 1 } := by
  unfold State.restartLane
  dsimp only
  rw [h]
  rfl

/-- A state with other lanes, lane counters and index of the next free value: all that emptying a lane writes. -/
def State.withLanes (s : State) (lanes : Vector Lane 4) (counts : Vector (Vector (BitVec 32) 5) 4) (i : Nat) : State :=
  { s with lanes := lanes, counters := { s.counters with lanes := counts }, freeIndex := i }

theorem State.restartLane_eq_withLanes (s : State) (n : LaneId) : s.restartLane n =
    s.withLanes (s.restartLane n).lanes (s.restartLane n).counters.lanes (s.restartLane n).freeIndex := by
  cases h : (s.lane n).emission with
  | none => rw [State.restartLane_silent h]; rfl
  | some d => rw [State.restartLane_sending h]; rfl

/-- What a restart makes of a lane and its counters; `frame` gives the octets of a descriptor's frame (06 R106). -/
structure Lane.RestartedTo (l l' : Lane) (count count' : LaneCounter → BitVec 32) (frame : Descriptor → List Byte) :
    Prop where
  queue : l'.queue = []
  emission : l'.emission = none
  credit : l'.credit = 0
  stallTimer : l'.stallTimer = none
  stallLimit : l'.stallLimit = l.stallLimit
  state : l'.state = l.state.afterRestart
  silent : l.emission = none → count' .aborted = count .aborted ∧ l'.lastFrame = l.lastFrame
  cut : ∀ d, l.emission = some d → count' .aborted = count .aborted + 1 ∧
    ∃ sent, sent <+: frame d ∧ l'.lastFrame = .aborted sent
  others : ∀ c, c ≠ .aborted → count' c = count c

/-- The lane `n` of `s` is restarted in `t`. -/
def State.laneRestarted (s t : State) (n : LaneId) : Prop :=
  (s.lane n).RestartedTo (t.lane n) (s.laneCounter n) (t.laneCounter n) s.frameOctets

theorem State.restartLane_laneRestarted (s : State) (n : LaneId) : s.laneRestarted (s.restartLane n) n := by
  unfold State.laneRestarted
  cases h : (s.lane n).emission with
  | none =>
    rw [State.restartLane_silent h, State.lane_setLane_self]
    exact ⟨rfl, rfl, rfl, rfl, rfl, rfl, fun _ => ⟨State.laneCounter_setLane _ _ _ _ _, rfl⟩,
      fun d hd => absurd (h.symm.trans hd) nofun, fun c _ => State.laneCounter_setLane _ _ _ _ _⟩
  | some d =>
    have hlane : (s.restartLane n).lane n = { (s.lane n).emptied with lastFrame := s.cutFrame d } := by
      rw [State.restartLane_sending h]
      exact State.lane_setLane_self _ _ _
    have hcount : (s.restartLane n).laneCounter n = (s.bumpLane n .aborted 1).laneCounter n := by
      rw [State.restartLane_sending h]
      rfl
    rw [hlane, hcount]
    refine ⟨rfl, rfl, rfl, rfl, rfl, rfl, fun hn => absurd (h.symm.trans hn) nofun, fun d' hd => ?_,
      fun c hc => State.laneCounter_bumpLane_ne _ _ _ _ _ _ (.inr hc)⟩
    obtain rfl : d = d' := Option.some.inj (h.symm.trans hd)
    exact ⟨State.laneCounter_bumpLane_self _ _ _ _, _, List.take_prefix _ _, rfl⟩

/-- A restart of a lane leaves every other lane and its counters. -/
theorem State.restartLane_other (s : State) {n m : LaneId} (h : m ≠ n) :
    (s.restartLane n).lane m = s.lane m ∧ (s.restartLane n).laneCounter m = s.laneCounter m := by
  cases he : (s.lane n).emission with
  | none =>
    rw [State.restartLane_silent he]
    exact ⟨State.lane_setLane_ne s n m _ h, funext fun c => State.laneCounter_setLane s n _ m c⟩
  | some d =>
    rw [State.restartLane_sending he]
    exact ⟨State.lane_setLane_ne s n m _ h, funext fun c => State.laneCounter_bumpLane_ne s n m .aborted c 1 (.inl h)⟩

theorem State.restartLane_frameOctets (s : State) (n : LaneId) : (s.restartLane n).frameOctets = s.frameOctets := by
  rw [State.restartLane_eq_withLanes]
  rfl

/-! ### Step 1: every lane (09 R146) -/

theorem State.foldl_restartLane_eq_withLanes (ns : List LaneId) (s : State) : ∃ lanes counts i,
    ns.foldl State.restartLane s = s.withLanes lanes counts i := by
  induction ns generalizing s with
  | nil => exact ⟨s.lanes, s.counters.lanes, s.freeIndex, rfl⟩
  | cons n ns ih =>
    obtain ⟨lanes, counts, i, h⟩ := ih (s.restartLane n)
    exact ⟨lanes, counts, i, by rw [List.foldl_cons, h, State.restartLane_eq_withLanes]; rfl⟩

theorem State.foldl_restartLane_other (ns : List LaneId) (s : State) {n : LaneId} (hn : n ∉ ns) :
    (ns.foldl State.restartLane s).lane n = s.lane n ∧
      (ns.foldl State.restartLane s).laneCounter n = s.laneCounter n := by
  induction ns generalizing s with
  | nil => exact ⟨rfl, rfl⟩
  | cons m ns ih =>
    obtain ⟨hnm, hnns⟩ := not_or.mp (mt List.mem_cons.mpr hn)
    obtain ⟨hlane, hcount⟩ := s.restartLane_other hnm
    obtain ⟨hlane', hcount'⟩ := ih (s.restartLane m) hnns
    exact ⟨hlane'.trans hlane, hcount'.trans hcount⟩

/-- The lanes restarted one after another: each is reached once, and the restarts of the others do not touch it. -/
theorem State.foldl_restartLane_laneRestarted (ns : List LaneId) (hns : ns.Nodup) (s : State) {n : LaneId}
    (hn : n ∈ ns) : s.laneRestarted (ns.foldl State.restartLane s) n := by
  induction ns generalizing s with
  | nil => cases hn
  | cons m ns ih =>
    obtain ⟨hm, hns'⟩ := List.nodup_cons.mp hns
    rw [List.foldl_cons]
    by_cases hnm : n = m
    · subst hnm
      obtain ⟨hlane, hcount⟩ := State.foldl_restartLane_other ns (s.restartLane n) hm
      unfold State.laneRestarted
      rw [hlane, hcount]
      exact s.restartLane_laneRestarted n
    · obtain ⟨hlane, hcount⟩ := s.restartLane_other hnm
      have h := ih hns' (s.restartLane m) (List.mem_of_ne_of_mem hnm hn)
      unfold State.laneRestarted at h
      rwa [hlane, hcount, State.restartLane_frameOctets] at h

/-- Step 1 of a restart. -/
def State.restartLanes (s : State) : State := laneIds.foldl State.restartLane s

theorem State.restartLanes_eq_withLanes (s : State) : ∃ lanes counts i, s.restartLanes = s.withLanes lanes counts i :=
  State.foldl_restartLane_eq_withLanes laneIds s

theorem State.restartLanes_laneRestarted (s : State) (n : LaneId) : s.laneRestarted s.restartLanes n :=
  State.foldl_restartLane_laneRestarted laneIds (by decide) s (by revert n; decide)

/-! ### Step 4: the store rebuilt (04 R80) -/

/-- A class that was CONGESTED is counted in CONGESTION_CHANGES (04 R74, R80). -/
theorem State.device_clearAtRebuild (s : State) (c : ClassId) : (s.clearAtRebuild c).device .congestionChanges =
    s.device .congestionChanges + BitVec.ofNat 32 (if (s.cls c).congested then 1 else 0) := by
  unfold State.clearAtRebuild
  split
  · exact State.device_bumpDevice_self _ _
  · simp

theorem State.device_clearAtRebuild_ne (s : State) (c : ClassId) {d : DeviceCounter} (h : d ≠ .congestionChanges) :
    (s.clearAtRebuild c).device d = s.device d := by
  unfold State.clearAtRebuild
  split
  · exact State.device_bumpDevice_ne _ _ _ h
  · rfl

theorem State.cls_clearAtRebuild (s : State) (c d : ClassId) : (s.clearAtRebuild c).cls d =
    if d = c then { s.cls c with congested := false } else s.cls d := by
  unfold State.clearAtRebuild
  split
  · rw [State.changeCongestion, State.cls_handOffCongestion, State.cls_setCls]
  · next h =>
    split
    · next hd => rw [hd, ← Bool.eq_false_of_not_eq_true h]
    · rfl

theorem State.clearAtRebuild_noticeMask (s : State) (c : ClassId) :
    (s.clearAtRebuild c).ret.noticeMask = s.ret.noticeMask := by
  unfold State.clearAtRebuild
  split
  · exact (s.changeCongestion_undisturbed c false).mask
  · rfl

/-- The arbiter begins nothing, whether a congestion status is pending or not. -/
def ReturnLink.waits (r : ReturnLink) : Prop :=
  ∀ (b : Bool) (c : ReturnContent),
    { r with congestionPending := b }.arbitrate c = { r with congestionPending := b }

theorem ReturnLink.waits_of_busy {r : ReturnLink} (h : r.onLink.isSome = true) : r.waits :=
  fun b c => ReturnLink.arbitrate_busy { r with congestionPending := b } c h

/-- Under the full-restart hold the arbiter passes over a congestion status (10 R152, R153). -/
theorem ReturnLink.waits_of_hold {r : ReturnLink} (h : r.fullRestartHold = true) (hr : r.replies = [])
    (hn : r.notices = []) : r.waits :=
  fun b c => ReturnLink.arbitrate_nothing { r with congestionPending := b } c (by simp [h]) hr hn

theorem State.clearAtRebuild_ret {s : State} (h : s.ret.waits) (c : ClassId) : (s.clearAtRebuild c).ret =
    { s.ret with congestionPending := s.ret.congestionPending || (s.cls c).congested } := by
  unfold State.clearAtRebuild
  split
  · next hc =>
    rw [hc, Bool.or_true]
    exact h true _
  · next hc => rw [Bool.eq_false_of_not_eq_true hc, Bool.or_false]

theorem State.cls_foldl_clearAtRebuild (cs : List ClassId) (s : State) (d : ClassId) :
    (cs.foldl State.clearAtRebuild s).cls d =
      if d ∈ cs then { s.cls d with congested := false } else s.cls d := by
  induction cs generalizing s with
  | nil => rfl
  | cons c cs ih =>
    rw [List.foldl_cons, ih, State.cls_clearAtRebuild]
    by_cases hd : d = c
    · subst hd; simp
    · simp [hd]

theorem State.device_foldl_clearAtRebuild_ne (cs : List ClassId) (s : State) {d : DeviceCounter}
    (h : d ≠ .congestionChanges) : (cs.foldl State.clearAtRebuild s).device d = s.device d := by
  induction cs generalizing s with
  | nil => rfl
  | cons c cs ih => rw [List.foldl_cons, ih, State.device_clearAtRebuild_ne s c h]

theorem State.foldl_clearAtRebuild_noticeMask (cs : List ClassId) (s : State) :
    (cs.foldl State.clearAtRebuild s).ret.noticeMask = s.ret.noticeMask := by
  induction cs generalizing s with
  | nil => rfl
  | cons c cs ih => rw [List.foldl_cons, ih, State.clearAtRebuild_noticeMask]

section Classes

variable {cs : List ClassId} {congested : ClassId → Bool}

/-- The classes behind are as CONGESTED after a class has been cleared as they were before. -/
theorem State.congested_clearAtRebuild {s : State} {c : ClassId} (hc : c ∉ cs)
    (h : ∀ d ∈ c :: cs, (s.cls d).congested = congested d) :
    ∀ d ∈ cs, ((s.clearAtRebuild c).cls d).congested = congested d := fun d hd => by
  rw [State.cls_clearAtRebuild, if_neg (ne_of_mem_of_not_mem hd hc), h d (List.mem_cons_of_mem c hd)]

theorem State.device_foldl_clearAtRebuild (hcs : cs.Nodup) {s : State}
    (h : ∀ c ∈ cs, (s.cls c).congested = congested c) :
    (cs.foldl State.clearAtRebuild s).device .congestionChanges =
      s.device .congestionChanges + BitVec.ofNat 32 (cs.countP congested) := by
  induction cs generalizing s with
  | nil => simp
  | cons c cs ih =>
    obtain ⟨hc, hcs'⟩ := List.nodup_cons.mp hcs
    rw [List.foldl_cons, ih hcs' (State.congested_clearAtRebuild hc h), State.device_clearAtRebuild,
      h c List.mem_cons_self, List.countP_cons, Nat.add_comm, BitVec.ofNat_add, BitVec.add_assoc]

/-- On a link on which the arbiter begins nothing the changes leave a congestion status pending (10 R159). -/
theorem State.foldl_clearAtRebuild_ret (hcs : cs.Nodup) {s : State} (hw : s.ret.waits)
    (h : ∀ c ∈ cs, (s.cls c).congested = congested c) : (cs.foldl State.clearAtRebuild s).ret =
      { s.ret with congestionPending := s.ret.congestionPending || cs.any congested } := by
  induction cs generalizing s with
  | nil => simp
  | cons c cs ih =>
    obtain ⟨hc, hcs'⟩ := List.nodup_cons.mp hcs
    have hret := State.clearAtRebuild_ret hw c
    rw [List.foldl_cons, ih hcs' (by rw [hret]; exact hw) (State.congested_clearAtRebuild hc h), hret,
      h c List.mem_cons_self, List.any_cons, Bool.or_assoc]

end Classes

/-- The store of a rebuild before its congestion changes (04 R80). -/
def State.storeEmptied (s : State) : State :=
  { s with store := { s.store with
    unitClass := Vector.replicate 8192 none
    freeList := builtFreeList
    classes := s.store.classes.map (fun a => { a with usage := 0, fallOwed := false }) } }

theorem State.rebuildStore_eq (s : State) : s.rebuildStore = classIds.foldl State.clearAtRebuild s.storeEmptied := rfl

theorem State.cls_storeEmptied (s : State) (c : ClassId) :
    s.storeEmptied.cls c = { s.cls c with usage := 0, fallOwed := false } := by
  simp [State.cls, State.storeEmptied]

theorem classIds_nodup : classIds.Nodup := by decide

theorem mem_classIds (c : ClassId) : c ∈ classIds := by revert c; decide

theorem State.rebuildStore_freeList (s : State) : s.rebuildStore.store.freeList = List.finRange 8192 := by
  rw [← builtFreeList_eq_finRange]
  simp [State.rebuildStore, classIds]

theorem State.rebuildStore_unitClass (s : State) (u : UnitNo) : s.rebuildStore.store.unitClass[u.val] = none := by
  simp [State.rebuildStore, classIds]

theorem State.cls_rebuildStore (s : State) (c : ClassId) :
    s.rebuildStore.cls c = { s.cls c with usage := 0, congested := false, fallOwed := false } := by
  rw [State.rebuildStore_eq, State.cls_foldl_clearAtRebuild, if_pos (mem_classIds c), State.cls_storeEmptied]

theorem State.drops_rebuildStore (s : State) (c : DropCounter) : s.rebuildStore.drops c = s.drops c := by
  simp [State.drops, State.rebuildStore, classIds]

theorem State.parcels_rebuildStore (s : State) (c : ParcelCounter) : s.rebuildStore.parcels c = s.parcels c := by
  simp [State.parcels, State.rebuildStore, classIds]

theorem State.laneCounter_rebuildStore (s : State) (n : LaneId) (c : LaneCounter) :
    s.rebuildStore.laneCounter n c = s.laneCounter n c := by
  simp [State.laneCounter, State.rebuildStore, classIds]

theorem State.device_rebuildStore (s : State) : s.rebuildStore.device .congestionChanges =
    s.device .congestionChanges + BitVec.ofNat 32 (classIds.countP fun c => (s.cls c).congested) :=
  State.device_foldl_clearAtRebuild (s := s.storeEmptied) classIds_nodup fun c _ => by rw [State.cls_storeEmptied]

theorem State.device_rebuildStore_ne (s : State) {c : DeviceCounter} (h : c ≠ .congestionChanges) :
    s.rebuildStore.device c = s.device c :=
  State.device_foldl_clearAtRebuild_ne classIds s.storeEmptied h

theorem State.rebuildStore_noticeMask (s : State) : s.rebuildStore.ret.noticeMask = s.ret.noticeMask :=
  State.foldl_clearAtRebuild_noticeMask classIds s.storeEmptied

theorem State.rebuildStore_ret {s : State} (h : s.ret.waits) : s.rebuildStore.ret =
    { s.ret with congestionPending := s.ret.congestionPending || classIds.any fun c => (s.cls c).congested } :=
  State.foldl_clearAtRebuild_ret (s := s.storeEmptied) classIds_nodup h fun c _ => by rw [State.cls_storeEmptied]

theorem pending_or_any_congested_iff (s : State) :
    (s.ret.congestionPending || classIds.any fun c => (s.cls c).congested) = true ↔
      s.ret.congestionPending = true ∨ ∃ c, (s.cls c).congested = true := by
  simp [mem_classIds]

end Sys2Proof.Machine
end

section
/-! SUPPORT. RESTART TRAFFIC and RESTART FULL as a ready engine carries them out: the state each leaves, field by field (09 R146 to R148, 03 R59, 08 R138). -/

namespace Sys2Proof.Machine

theorem ThreadEntry.restart_eq (e : ThreadEntry) :
    e.restart = { active := e.pending.getD e.active, pending := none, binding := none } := by
  rw [← ThreadEntry.endParcel_active, ← ThreadEntry.endParcel_pending e]
  rfl

/-! ### Steps 1 to 4 of a restart (09 R146) -/

/-- Steps 1 to 3 of a restart, with the aging record and the thread entries that it leaves. -/
def State.cleared (s : State) (aging : Aging) (threads : Vector ThreadEntry 1024) : State :=
  { s.restartLanes with
    aging := aging
    slotReports := s.slotReports + s.busySlots
    slots := Vector.replicate 96 Slot.free
    threads := threads }

/-- What steps 1 to 4 of a restart leave, whichever of the two it is. -/
structure State.RestartedTo (s : State) (aging : Aging) (threads : Vector ThreadEntry 1024) (z : State) : Prop where
  lanes : ∀ n, s.laneRestarted z n
  aging : z.aging = aging
  threads : z.threads = threads
  slots : z.slots = Vector.replicate 96 Slot.free
  reports : z.slotReports = s.slotReports + s.busySlots
  octets : z.store.octets = s.store.octets
  hysteresis : z.store.hysteresis = s.store.hysteresis
  freeList : z.store.freeList = List.finRange 8192
  unitClass : ∀ u : UnitNo, z.store.unitClass[u.val] = none
  cls : ∀ c, z.cls c = { s.cls c with usage := 0, congested := false, fallOwed := false }
  changes : z.device .congestionChanges = s.device .congestionChanges +
    BitVec.ofNat 32 (classIds.countP fun c => (s.cls c).congested)
  device : ∀ c, c ≠ .congestionChanges → z.device c = s.device c
  drops : ∀ c, z.drops c = s.drops c
  parcels : ∀ c, z.parcels c = s.parcels c
  tally : z.orphanTally = s.orphanTally
  controller : z.controller = s.controller
  mask : z.ret.noticeMask = s.ret.noticeMask
  ret : s.ret.waits → z.ret =
    { s.ret with congestionPending := s.ret.congestionPending || classIds.any fun c => (s.cls c).congested }

theorem State.rebuildStore_restartedTo (s : State) (aging : Aging) (threads : Vector ThreadEntry 1024) :
    s.RestartedTo aging threads (s.cleared aging threads).rebuildStore := by
  have hlanes : ∀ n, s.laneRestarted (s.cleared aging threads) n := s.restartLanes_laneRestarted
  obtain ⟨lanes, counts, i, hw⟩ : ∃ lanes counts i, s.cleared aging threads =
      { s.withLanes lanes counts i with
        aging := aging
        slotReports := s.slotReports + s.busySlots
        slots := Vector.replicate 96 Slot.free
        threads := threads } := by
    obtain ⟨lanes, counts, i, h⟩ := s.restartLanes_eq_withLanes
    exact ⟨lanes, counts, i, by rw [State.cleared, h]⟩
  generalize s.cleared aging threads = w at hw hlanes
  have hstore : w.store = s.store := by rw [hw]; rfl
  have hret : w.ret = s.ret := by rw [hw]; rfl
  have hcls : ∀ c, w.cls c = s.cls c := fun c => State.cls_congr s w c hstore
  have hdevice : ∀ c, w.device c = s.device c := fun c => by rw [hw]; rfl
  constructor
  case lanes =>
    intro n
    unfold State.laneRestarted
    rw [State.lane_rebuildStore, funext (w.laneCounter_rebuildStore n)]
    exact hlanes n
  case aging => rw [State.rebuildStore_aging, hw]
  case threads => rw [State.rebuildStore_threads, hw]
  case slots => rw [State.rebuildStore_slots, hw]
  case reports => rw [State.rebuildStore_slotReports, hw]
  case octets => rw [State.rebuildStore_octets, hstore]
  case hysteresis => rw [State.rebuildStore_hysteresis, hstore]
  case freeList => exact w.rebuildStore_freeList
  case unitClass => exact w.rebuildStore_unitClass
  case cls => exact fun c => by rw [State.cls_rebuildStore, hcls]
  case changes => simp only [State.device_rebuildStore, hdevice, hcls]
  case device => exact fun c hc => by rw [State.device_rebuildStore_ne w hc, hdevice]
  case drops => exact fun c => by rw [State.drops_rebuildStore, hw]; rfl
  case parcels => exact fun c => by rw [State.parcels_rebuildStore, hw]; rfl
  case tally => rw [State.rebuildStore_orphanTally, hw]; rfl
  case controller => rw [State.rebuildStore_controller, hw]; rfl
  case mask => rw [State.rebuildStore_noticeMask, hret]
  case ret => exact fun h => by simp only [State.rebuildStore_ret (hret ▸ h), hret, hcls]

/-! ### Steps 5 and 6 -/

/-- Steps 5 and 6 of RESTART TRAFFIC. -/
def State.endTraffic (z : State) : State := { z with ret := z.ret.restart, mode := .init }

theorem State.restartTraffic_eq (s : State) : s.restartTraffic =
    (s.cleared s.aging.restart (s.threads.map ThreadEntry.restart)).rebuildStore.endTraffic := by
  obtain ⟨lanes, counts, i, h⟩ := s.restartLanes_eq_withLanes
  have hcleared : { s.restartLanes with aging := s.restartLanes.aging.restart }.restartSlots =
      s.cleared s.aging.restart (s.threads.map ThreadEntry.restart) := by
    rw [State.cleared, h]
    rfl
  exact congrArg (fun w : State => w.rebuildStore.endTraffic) hcleared

/-- The state with the full-restart hold set (10 R153). -/
def State.held (s : State) : State := { s with ret := { s.ret with fullRestartHold := true } }

/-- Steps 5 and 6 of RESTART FULL, with the settings and counters it restores (09 R148). -/
def State.endFull (z : State) : State :=
  { z.restoreDefaults with
    ret := z.restoreDefaults.ret.restartFull
    mode := .init
    counters := Counters.zero
    orphanTally := 0
    engine := { z.restoreDefaults.engine with queue := [] } }

theorem State.restartFull_eq (s : State) : s.restartFull =
    (s.held.cleared { s.aging with period := 1000 }.restart
      (Vector.replicate 1024 ThreadEntry.default)).rebuildStore.endFull := by
  obtain ⟨lanes, counts, i, h⟩ := s.held.restartLanes_eq_withLanes
  have hcleared :
      { s.held.restartLanes with aging := { s.held.restartLanes.aging with period := 1000 }.restart }.restartSlotsFull =
      s.held.cleared { s.aging with period := 1000 }.restart (Vector.replicate 1024 ThreadEntry.default) := by
    rw [State.cleared, h]
    rfl
  exact congrArg (fun w : State => w.rebuildStore.endFull) hcleared

/-! ### What RESTART FULL restores (09 R148) -/

section EndFull

variable (z : State)

theorem State.lane_endFull (n : LaneId) : z.endFull.lane n = { z.lane n with stallLimit := 100 } := by
  simp [State.lane, State.endFull, State.restoreDefaults]

theorem State.cls_endFull (c : ClassId) : z.endFull.cls c = { z.cls c with quota := 2048, warn := 1536 } := by
  simp [State.cls, State.endFull, State.restoreDefaults]

theorem State.laneCounter_endFull (n : LaneId) (c : LaneCounter) : z.endFull.laneCounter n c = 0 := by
  simp [State.laneCounter, State.endFull, Counters.zero]

theorem State.drops_endFull (c : DropCounter) : z.endFull.drops c = 0 := by
  simp [State.drops, State.endFull, Counters.zero]

theorem State.parcels_endFull (c : ParcelCounter) : z.endFull.parcels c = 0 := by
  simp [State.parcels, State.endFull, Counters.zero]

theorem State.device_endFull (c : DeviceCounter) : z.endFull.device c = 0 := by
  simp [State.device, State.endFull, Counters.zero]

theorem State.endFull_withEngine (e : Engine) :
    (z.withEngine e).endFull = z.endFull.withEngine { e with queue := [], drainLimit := 500 } := rfl

end EndFull

/-- RESTART FULL reads nothing of the engine's record; it empties the management queue and restores DRAIN_LIMIT. -/
theorem State.restartFull_withEngine (s : State) (e : Engine) :
    (s.withEngine e).restartFull = s.restartFull.withEngine { e with queue := [], drainLimit := 500 } := by
  have hlanes : (s.withEngine e).held.restartLanes = s.held.restartLanes.withEngine e :=
    State.foldl_withEngine State.restartLane (fun s n e => State.restartLane_withEngine s e n) laneIds s.held e
  have hcleared : ∀ a ts, (s.withEngine e).held.cleared a ts = (s.held.cleared a ts).withEngine e := fun a ts => by
    rw [State.cleared, hlanes]
    rfl
  rw [State.restartFull_eq, State.restartFull_eq, hcleared, State.rebuildStore_withEngine, State.endFull_withEngine]
  rfl

theorem State.restartFull_engine (s : State) :
    s.restartFull.engine = { s.engine with queue := [], drainLimit := 500 } := by
  have h := congrArg State.engine (s.restartFull_withEngine s.engine)
  exact h

/-! ### The answer of a ready engine (08 R138) -/

theorem State.withEngine_engine (t : State) : t.withEngine t.engine = t := rfl

/-- A reply gives the reservation back and changes nothing else of the engine. -/
theorem State.decline_withEngine (t : State) (e : Engine) (r : Request) (st : Status) : (t.withEngine e).decline r st =
    (t.withEngine { e with reserved := false }).queueReply ⟨r.number, r.code, st, .empty⟩ := rfl

section Answers

variable {s : State} (num : BitVec 16) (h : s.ready)

include h

theorem exec_restartTraffic :
    exec (.restartTraffic num) s = .next (s.restartTraffic.queueReply ⟨num, 0x0B, .done, .empty⟩) := by
  show Host.Outcome.next (s.requestArrives (requestWith num 0x0B [0x00])) = _
  rw [State.requestArrives_ready s _ h]
  show Host.Outcome.next ((s.withEngine { s.engine with reserved := true }).restartTraffic.decline
    (requestWith num 0x0B [0x00]) .done) = _
  rw [State.restartTraffic_withEngine]
  exact congrArg _ (State.answer_ready s s.restartTraffic _ _ _ h s.restartTraffic_engine)

theorem State.restartFull_engine_ready : s.restartFull.engine = { s.engine with drainLimit := 500 } := by
  obtain ⟨-, hqueue, -⟩ := h
  rw [State.restartFull_engine, ← hqueue]

theorem exec_restartFull :
    exec (.restartFull num) s = .next (s.restartFull.queueReply ⟨num, 0x0B, .done, .empty⟩) := by
  have hengine : { s.engine with reserved := false, queue := [], drainLimit := 500 } = s.restartFull.engine := by
    rw [State.restartFull_engine, ← State.ready_engine s h]
  show Host.Outcome.next (s.requestArrives (requestWith num 0x0B [0x01])) = _
  rw [State.requestArrives_ready s _ h]
  show Host.Outcome.next ((s.withEngine { s.engine with reserved := true }).restartFull.decline
    (requestWith num 0x0B [0x01]) .done) = _
  rw [State.restartFull_withEngine, State.decline_withEngine, hengine, State.withEngine_engine]
  rfl

end Answers

end Sys2Proof.Machine

open Sys2Proof Sys2Proof.Machine

/-- Settles O59: it holds. Steps 1 to 4 leave what `State.RestartedTo` says, and steps 5 and 6 touch the notices and the
mode alone. -/
theorem restartTrafficClearsTheTraffic : Obligations.RestartTrafficClearsTheTraffic := by
  intro s num h
  have hexec := exec_restartTraffic num h
  have hengine := s.restartTraffic_engine
  have hz := s.rebuildStore_restartedTo s.aging.restart (s.threads.map ThreadEntry.restart)
  rw [State.restartTraffic_eq] at hexec hengine
  generalize (s.cleared s.aging.restart (s.threads.map ThreadEntry.restart)).rebuildStore = z at hexec hengine hz
  refine ⟨z.endTraffic, hexec, rfl, fun n => ?lane, hz.aging, z.slot_replicate hz.slots, hz.reports, fun x => ?thread,
    hz.octets, hz.freeList, hz.unitClass, hz.hysteresis, hz.cls, hz.changes, hz.device, rfl, rfl, hz.mask,
    fun hb => ?busy, hz.controller, hengine, hz.drops, hz.parcels, hz.tally⟩
  case lane =>
    have hn := hz.lanes n
    exact ⟨hn.queue, hn.emission, hn.credit, hn.stallTimer, hn.stallLimit,
      fun hs => hn.state.trans (LaneState.afterRestart_of_stopped hs),
      fun hs => hn.state.trans (LaneState.afterRestart_of_started hs), hn.silent, hn.cut, hn.others⟩
  case thread =>
    rw [← ThreadEntry.restart_eq]
    simp [State.thread, State.endTraffic, hz.threads]
  case busy =>
    have hret : z.endTraffic.ret = z.ret.restart := rfl
    rw [hret, hz.ret (ReturnLink.waits_of_busy hb)]
    exact ⟨rfl, rfl, rfl, pending_or_any_congested_iff s⟩

/-- Settles O60: it holds. The hold keeps the arbiter from beginning anything while the store is rebuilt, on a busy link
as on an idle one; steps 5 and 6 then restore the defaults, and the reply begins with sequence 0. -/
theorem restartFullRestoresDefaults : Obligations.RestartFullRestoresDefaults := by
  intro s num h hlaw
  have hexec := exec_restartFull num h
  have hengine := State.restartFull_engine_ready h
  have hz := s.held.rebuildStore_restartedTo { s.aging with period := 1000 }.restart
    (Vector.replicate 1024 ThreadEntry.default)
  rw [State.restartFull_eq] at hexec hengine
  generalize (s.held.cleared { s.aging with period := 1000 }.restart
    (Vector.replicate 1024 ThreadEntry.default)).rebuildStore = z at hexec hengine hz
  have hwaits : s.held.ret.waits := by
    cases hl : s.ret.onLink with
    | some p => exact ReturnLink.waits_of_busy (by rw [State.held, hl]; rfl)
    | none =>
      obtain ⟨hreplies, hnotices, -⟩ := hlaw.1 hl
      exact ReturnLink.waits_of_hold rfl hreplies hnotices
  have hret : z.endFull.ret = z.ret.restartFull := rfl
  rw [hz.ret hwaits] at hret
  refine ⟨z.endFull, hexec, rfl, fun n => ?lane, hz.aging, z.slot_replicate hz.slots, z.thread_replicate hz.threads,
    hz.reports, hz.octets, hz.freeList, hz.unitClass, rfl, fun c => ?cls, rfl, hengine, z.drops_endFull,
    z.parcels_endFull, z.device_endFull, rfl, rfl, rfl, rfl, rfl, by rw [hret]; rfl, rfl, by rw [hret]; rfl, ?pending,
    fun hl => ?reply⟩
  case lane =>
    have hn := hz.lanes n
    rw [State.lane_endFull]
    exact ⟨hn.queue, hn.emission, hn.credit, hn.stallTimer, rfl,
      fun hs => hn.state.trans (LaneState.afterRestart_of_stopped hs),
      fun hs => hn.state.trans (LaneState.afterRestart_of_started hs), z.laneCounter_endFull n⟩
  case cls => rw [State.cls_endFull, hz.cls]
  case pending =>
    rw [hret]
    exact pending_or_any_congested_iff s
  case reply =>
    have hreply := ReturnLink.arbitrate_reply
      { z.endFull.ret with replies := [⟨num, 0x0B, .done, .empty⟩] } z.endFull.store.congestionContent
      ⟨num, 0x0B, .done, .empty⟩ [] (by rw [hret]; exact hl) (by rw [hret]; exact Bool.and_false _) rfl
    exact congrArg ReturnLink.onLink hreply

end

section
/-! SUPPORT. The Parcel Store's classes: what each of its operations makes of a class account, and what the judgements of R72, R73 and R78 leave of a congestion state (04 R67, R71 to R78). -/

namespace Sys2Proof.Machine

/-! ### The judgements on one class account -/

/-- The judgement after a claim, on the account alone (04 R72). -/
def ClassAccount.risen (a : ClassAccount) : ClassAccount :=
  if a.congested = false ∧ a.warn ≤ a.usage then { a with congested := true } else a

/-- The judgement after returns, on the account alone, `h` being the HYSTERESIS setting (04 R73). -/
def ClassAccount.fallen (h : Nat) (a : ClassAccount) : ClassAccount :=
  if a.congested = true ∧ a.usage ≤ a.warn - h ∧ a.usage < a.warn then { a with congested := false } else a

/-- The re-judgement, on the account alone (04 R78). -/
def ClassAccount.rejudged (h : Nat) (a : ClassAccount) : ClassAccount := if a.congested then a.fallen h else a.risen

/-- The judgement of R73 where a return of the step owes it, on the account alone. -/
def ClassAccount.settled (h : Nat) (a : ClassAccount) : ClassAccount :=
  if a.fallOwed then { a with fallOwed := false }.fallen h else a

/-- A judgement moves the congestion state and the debt of R73 alone. -/
structure ClassAccount.sameLevels (a b : ClassAccount) : Prop where
  usage : b.usage = a.usage
  quota : b.quota = a.quota
  warn : b.warn = a.warn

theorem ClassAccount.sameLevels_refl (a : ClassAccount) : a.sameLevels a := ⟨rfl, rfl, rfl⟩

theorem ClassAccount.risen_sameLevels (a : ClassAccount) : a.sameLevels a.risen := by
  unfold ClassAccount.risen
  split <;> exact ⟨rfl, rfl, rfl⟩

theorem ClassAccount.fallen_sameLevels (h : Nat) (a : ClassAccount) : a.sameLevels (a.fallen h) := by
  unfold ClassAccount.fallen
  split <;> exact ⟨rfl, rfl, rfl⟩

theorem ClassAccount.rejudged_sameLevels (h : Nat) (a : ClassAccount) : a.sameLevels (a.rejudged h) := by
  unfold ClassAccount.rejudged
  split
  · exact a.fallen_sameLevels h
  · exact a.risen_sameLevels

theorem ClassAccount.settled_sameLevels (h : Nat) (a : ClassAccount) : a.sameLevels (a.settled h) := by
  unfold ClassAccount.settled
  split
  · obtain ⟨hu, hq, hw⟩ := ClassAccount.fallen_sameLevels h { a with fallOwed := false }
    exact ⟨hu, hq, hw⟩
  · exact a.sameLevels_refl

/-! ### The judgements on the state, class by class -/

/-- The clear level is WARN less HYSTERESIS, and 0 where HYSTERESIS is greater (04 R73). -/
theorem State.clearLevel_eq (s : State) (c : ClassId) : s.clearLevel c = (s.cls c).warn - s.store.hysteresis := by
  unfold State.clearLevel
  split <;> omega

theorem State.cls_changeCongestion (s : State) (c d : ClassId) (b : Bool) : (s.changeCongestion c b).cls d =
    if d = c then { s.cls c with congested := b } else s.cls d := by
  rw [State.changeCongestion, State.cls_handOffCongestion, State.cls_setCls]

theorem State.cls_judgeRise (s : State) (c d : ClassId) :
    (s.judgeRise c).cls d = if d = c then (s.cls c).risen else s.cls d := by
  unfold State.judgeRise ClassAccount.risen
  split
  · exact s.cls_changeCongestion c d true
  · split
    · next h => rw [h]
    · rfl

theorem State.cls_judgeFall (s : State) (c d : ClassId) :
    (s.judgeFall c).cls d = if d = c then (s.cls c).fallen s.store.hysteresis else s.cls d := by
  unfold State.judgeFall ClassAccount.fallen
  rw [State.clearLevel_eq]
  split
  · exact s.cls_changeCongestion c d false
  · split
    · next h => rw [h]
    · rfl

theorem State.cls_rejudge (s : State) (c d : ClassId) :
    (s.rejudge c).cls d = if d = c then (s.cls c).rejudged s.store.hysteresis else s.cls d := by
  unfold State.rejudge ClassAccount.rejudged
  split
  · exact s.cls_judgeFall c d
  · exact s.cls_judgeRise c d

theorem State.cls_settleClass (s : State) (c d : ClassId) :
    (s.settleClass c).cls d = if d = c then (s.cls c).settled s.store.hysteresis else s.cls d := by
  unfold State.settleClass ClassAccount.settled
  split
  · rw [State.cls_judgeFall, State.cls_setCls_self]
    split
    · rfl
    · next h => exact State.cls_setCls_ne _ _ _ _ h
  · split
    · next h => rw [h]
    · rfl

/-- An operation on one class after another, each on its own account, reaches every class of a list without repeats. -/
theorem State.cls_foldl {f : State → ClassId → State} {g : Nat → ClassAccount → ClassAccount}
    (hcls : ∀ s c d, (f s c).cls d = if d = c then g s.store.hysteresis (s.cls c) else s.cls d)
    (hhyst : ∀ s c, (f s c).store.hysteresis = s.store.hysteresis) (cs : List ClassId) (hcs : cs.Nodup) (s : State)
    (d : ClassId) : (cs.foldl f s).cls d = if d ∈ cs then g s.store.hysteresis (s.cls d) else s.cls d := by
  induction cs generalizing s with
  | nil => rfl
  | cons c cs ih =>
    obtain ⟨hc, hcs'⟩ := List.nodup_cons.mp hcs
    rw [List.foldl_cons, ih hcs', hcls, hhyst]
    by_cases hd : d = c
    · subst hd; simp [hc]
    · simp [hd]

theorem State.cls_settleReturns (s : State) (d : ClassId) :
    s.settleReturns.cls d = (s.cls d).settled s.store.hysteresis :=
  (State.cls_foldl State.cls_settleClass (by simp) classIds classIds_nodup s d).trans (if_pos (mem_classIds d))

theorem State.cls_foldl_rejudge (s : State) (d : ClassId) :
    (classIds.foldl State.rejudge s).cls d = (s.cls d).rejudged s.store.hysteresis :=
  (State.cls_foldl State.cls_rejudge (by simp) classIds classIds_nodup s d).trans (if_pos (mem_classIds d))

/-! ### Claims and returns -/

theorem State.cls_takeUnit (s : State) (c d : ClassId) (p : List Byte) (u : UnitNo) (r : List UnitNo) :
    (s.takeUnit c p u r).cls d = if d = c then { s.cls c with usage := (s.cls c).usage + 1 } else s.cls d := by
  simp only [State.takeUnit, State.cls_setCls]
  rfl

/-- What a successful claim makes of the classes (04 R67, R72). -/
theorem State.claim_cls {s z : State} {c : ClassId} {p : List Byte} {u : UnitNo} (h : s.claim c p = .taken u z)
    (d : ClassId) : z.cls d = if d = c then { s.cls c with usage := (s.cls c).usage + 1 }.risen else s.cls d := by
  obtain ⟨-, rest, -, rfl⟩ := (State.claim_taken_iff s z c p u).mp h
  rw [State.cls_judgeRise, State.cls_takeUnit, State.cls_takeUnit, if_pos rfl]
  split <;> rfl

/-- A returned unit without a class record changes nothing. -/
theorem State.uncountUnit_none {s : State} {u : UnitNo} (h : s.store.unitClass[u.val] = none) : s.uncountUnit u = s := by
  simp [State.uncountUnit, h]

theorem State.cls_uncountUnit {s : State} {u : UnitNo} {c : ClassId} (h : s.store.unitClass[u.val] = some c)
    (d : ClassId) : (s.uncountUnit u).cls d =
      if d = c then { s.cls c with usage := (s.cls c).usage - 1, fallOwed := true } else s.cls d := by
  simp only [State.uncountUnit, h, State.cls_setCls]
  rfl

/-- What holds of every account and survives the return of a unit survives the return of a chain (04 R71). -/
theorem State.returnChain_induct {p : ClassId → ClassAccount → Prop}
    (hp : ∀ c a, p c a → p c { a with usage := a.usage - 1, fallOwed := true }) (s : State) (chain : List UnitNo)
    (h : ∀ c, p c (s.cls c)) (c : ClassId) : p c ((s.returnChain chain).cls c) := by
  show p c ((chain.foldl State.uncountUnit s).cls c)
  induction chain generalizing s with
  | nil => exact h c
  | cons u chain ih =>
    refine ih (s.uncountUnit u) fun d => ?_
    cases hu : s.store.unitClass[u.val] with
    | none => rw [State.uncountUnit_none hu]; exact h d
    | some e =>
      rw [State.cls_uncountUnit hu]
      split
      · next hd => exact hd ▸ hp d _ (h d)
      · exact h d

end Sys2Proof.Machine
end

section
/-! SUPPORT. What a command can do to the Parcel Store: rules for each store operation, from which every command is followed once; the laws that speak of the store alone are instances (04 R64, R69, R72, R73, R78). -/

namespace Sys2Proof.Machine

/-- The rules under which every command but a shard's arrival keeps a law `P` of the store between steps; `Q` is what
holds of the store within a step, while units have been returned and the judgements of R73 are still to come. -/
structure StoreRules (P Q : State → Prop) : Prop where
  between : ∀ {s v : State}, P s → v.store = s.store → P v
  within : ∀ {s v : State}, Q s → v.store = s.store → Q v
  begins : ∀ {s : State}, P s → Q s
  returns : ∀ {s : State} (chain : List UnitNo), Q s → Q (s.returnChain chain)
  settles : ∀ {s : State}, Q s → P s.settleReturns
  quota : ∀ {s : State} (c : ClassId) (v : Nat), v ≤ 8192 → (s.cls c).warn ≤ v → P s →
    P (s.setCls c { s.cls c with quota := v })
  warn : ∀ {s : State} (c : ClassId) (v : Nat), v ≤ (s.cls c).quota → P s →
    P ((s.setCls c { s.cls c with warn := v }).rejudge c)
  hysteresis : ∀ {s : State} (v : Nat), P s →
    P (classIds.foldl State.rejudge { s with store := { s.store with hysteresis := v } })
  rebuild : ∀ {s : State}, P s → P s.rebuildStore
  defaults : ∀ {s : State}, P s → P s.rebuildStore.restoreDefaults
  built : ∀ {s : State}, P s → P { s with store := { s.store with freeList := builtFreeList } }
  reset : ∀ {s : State}, P s → P s.resetAll

/-- The rule that a shard's arrival needs beside `StoreRules`: within a step a successful claim keeps `Q`. -/
def ClaimRule (Q : State → Prop) : Prop :=
  ∀ {s z : State} {c : ClassId} {payload : List Byte} {u : UnitNo}, s.claim c payload = .taken u z → Q s → Q z

/-! ### What the operations make of the store -/

@[simp] theorem State.poison_store (s : State) (k : SlotId) (t : ThreadId) (stamp : PeriodNo) (held : List UnitNo)
    (g : Option Tag) (r : PoisonReason) : (s.poison k t stamp held g r).store = (s.returnChain held).store := by
  simp [State.poison]

@[simp] theorem State.discardPlaced_store (s : State) (placed : List UnitNo) (kind : NoticeKind) (c : ParcelCounter)
    (t : ThreadId) (g : Option Tag) (n : Option LaneId) :
    (s.discardPlaced placed kind c t g n).store = (s.returnChain placed).store := by
  simp [State.discardPlaced]

/-- A fold whose steps leave the store leaves it. -/
theorem State.foldl_store {α : Type} {f : State → α → State} (hf : ∀ s a, (f s a).store = s.store) (as : List α)
    (s : State) : (as.foldl f s).store = s.store := by
  induction as generalizing s with
  | nil => rfl
  | cons a as ih => exact (ih (f s a)).trans (hf s a)

@[simp] theorem State.dropEntries_store (s : State) (es : List EarlyEntry) (c : DropCounter) :
    (s.dropEntries es c).store = (s.returnChain (es.map EarlyEntry.unit)).store :=
  State.foldl_store (f := fun u _ => u.bumpDrop c) (fun _ _ => rfl) es _

@[simp] theorem State.orphanEntries_store (s : State) (t : ThreadId) (es : List EarlyEntry) :
    (s.orphanEntries t es).store = (s.returnChain (es.map EarlyEntry.unit)).store :=
  State.foldl_store (fun u _ => u.dropOrphan_store t) es _

theorem State.offer_store {s z : State} {d : Descriptor} (h : s.offer d = some z) : z.store = s.store := by
  unfold State.offer at h
  split at h
  · cases h; rfl
  · cases h

@[simp] theorem State.restartParcel_store (s : State) (t : ThreadId) (a : Assembly) (e : EarlyEntry) (p : Nat) :
    (s.restartParcel t a e p).2.store = (s.returnChain a.placed).store := by
  simp [State.restartParcel]

/-- A released slot's units go back, and nothing else of the store changes (01 R24). -/
theorem State.releaseSlot_store (s : State) (k : SlotId) :
    (s.releaseSlot k).store = (s.returnChain (s.slot k).units).store := by
  unfold State.releaseSlot
  split <;> next h => simp [h, Slot.units]

@[simp] theorem State.evict_store (s : State) (k : SlotId) : (s.evict k).store = s.store := by
  unfold State.evict
  split <;> rfl

theorem State.restartLanes_store (s : State) : s.restartLanes.store = s.store := by
  obtain ⟨lanes, counts, i, h⟩ := s.restartLanes_eq_withLanes
  rw [h]
  rfl

theorem State.restartTraffic_store (s : State) : ∃ w : State, w.store = s.store ∧
    s.restartTraffic.store = w.rebuildStore.store :=
  ⟨s.cleared s.aging.restart (s.threads.map ThreadEntry.restart), s.restartLanes_store,
    by rw [State.restartTraffic_eq]; rfl⟩

theorem State.restartFull_store (s : State) : ∃ w : State, w.store = s.store ∧
    s.restartFull.store = w.rebuildStore.restoreDefaults.store :=
  ⟨s.held.cleared { s.aging with period := 1000 }.restart (Vector.replicate 1024 ThreadEntry.default),
    s.held.restartLanes_store, by rw [State.restartFull_eq]; rfl⟩

theorem State.judgeClose_store (s : State) : s.judgeClose.store = s.store := by
  unfold State.judgeClose
  split <;> rfl

/-- What holds of a fold's start and is kept by its steps holds at its end. -/
theorem foldl_keeps {α β : Type} {f : β → α → β} {p : β → Prop} (hf : ∀ b a, p b → p (f b a)) (as : List α) {b : β}
    (h : p b) : p (as.foldl f b) := by
  induction as generalizing b with
  | nil => exact h
  | cons a as ih => exact ih (hf b a h)

/-! ### The Slot Table within a step -/

section Within

variable {P Q : State → Prop} (rules : StoreRules P Q) {s : State}

include rules

theorem StoreRules.afterReturn {v : State} {chain : List UnitNo} (hv : v.store = (s.returnChain chain).store)
    (h : Q s) : Q v :=
  rules.within (rules.returns chain h) hv

theorem StoreRules.poison (k : SlotId) (t : ThreadId) (stamp : PeriodNo) (held : List UnitNo) (g : Option Tag)
    (r : PoisonReason) (h : Q s) : Q (s.poison k t stamp held g r) :=
  rules.afterReturn (s.poison_store k t stamp held g r) h

theorem StoreRules.releaseSlot (k : SlotId) (h : Q s) : Q (s.releaseSlot k) :=
  rules.afterReturn (s.releaseSlot_store k) h

theorem StoreRules.sealParcel (t : ThreadId) (a : Assembly) (e : EarlyEntry) (h : Q s) : Q (s.sealParcel t a e) := by
  unfold State.sealParcel
  dsimp only
  split
  · split
    · next hz => exact rules.within (rules.within h (State.offer_store hz)) rfl
    · exact rules.afterReturn (State.discardPlaced_store ..) h
  · exact rules.afterReturn (State.discardPlaced_store ..) h

/-- A placement's answer with `Q` in force, whether it is over or the drain is to go on. -/
def Placed.within (Q : State → Prop) : Placed → Prop
  | .over z => Q z
  | .more _ z => Q z

theorem StoreRules.finishParcel (k : SlotId) (t : ThreadId) (stamp : PeriodNo) (x : Seq) (held : List EarlyEntry)
    (h : Q s) : (s.finishParcel k t stamp x held).within Q := by
  have hnext : ∀ {z : State} (early : List EarlyEntry), Q z → (z.nextParcel k t stamp x early).within Q := by
    intro z early hz
    unfold State.nextParcel
    split
    · exact hz
    · exact rules.poison _ _ _ _ _ _ hz
  have h1 : Q (s.signalParcelEnd t) := rules.within h rfl
  unfold State.finishParcel
  cases hp : (s.thread t).pending with
  | some c =>
    simp only [Option.isSome_some, if_true]
    have h2 := rules.afterReturn (State.dropEntries_store (s.signalParcelEnd t) held .displaced) h1
    split
    · exact rules.within h2 rfl
    · exact rules.within h2 (by simp [State.freeSlot])
  | none =>
    simp only [Option.isSome_none, Bool.false_eq_true, if_false]
    split
    · split
      · exact rules.within h1 rfl
      · split
        · exact rules.within (rules.afterReturn (State.dropEntries_store _ held .notRunning) h1) rfl
        · exact hnext held h1
    · exact rules.within (rules.afterReturn (State.orphanEntries_store _ t held) h1) rfl

theorem StoreRules.placePassed (k : SlotId) (t : ThreadId) (stamp : PeriodNo) (a : Assembly) (e : EarlyEntry)
    (h : Q s) : (s.placePassed k t stamp a e).within Q := by
  unfold State.placePassed
  dsimp only
  split
  · exact rules.finishParcel _ _ _ _ _ (rules.sealParcel _ _ _ h)
  · exact h

theorem StoreRules.placeShard (k : SlotId) (t : ThreadId) (stamp : PeriodNo) (a : Assembly) (e : EarlyEntry)
    (h : Q s) : (s.placeShard k t stamp a e).within Q := by
  unfold State.placeShard
  split
  · split
    · exact rules.placePassed _ _ _ _ _ h
    · exact rules.poison _ _ _ _ _ _ h
  · split
    · exact rules.placePassed _ _ _ _ _ (rules.afterReturn (State.restartParcel_store ..) h)
    · split
      · exact rules.placePassed _ _ _ _ _ h
      · exact rules.poison _ _ _ _ _ _ h

theorem StoreRules.drainEarly (k : SlotId) (t : ThreadId) (stamp : PeriodNo) (n : Nat) (a : Assembly) (h : Q s) :
    Q (State.drainEarly k t stamp n a s) := by
  induction n generalizing a s with
  | zero => exact rules.within h rfl
  | succ n ih =>
    unfold State.drainEarly
    split
    · exact rules.within h rfl
    · next e rest _ =>
      split
      · have hp := rules.placeShard k t stamp { a with early := rest } e h
        split
        · next z hz => rw [hz] at hp; exact hp
        · next b z hz => rw [hz] at hp; exact ih b hp
      · exact rules.within h rfl

theorem StoreRules.placeAndDrain (k : SlotId) (t : ThreadId) (stamp : PeriodNo) (a : Assembly) (e : EarlyEntry)
    (h : Q s) : Q (s.placeAndDrain k t stamp a e) := by
  have hp := rules.placeShard k t stamp a e h
  unfold State.placeAndDrain
  split
  · next z hz => rw [hz] at hp; exact hp
  · next b z hz => rw [hz] at hp; exact rules.drainEarly _ _ _ _ b hp

/-! ### A data shard, with the claim of its unit -/

variable (claims : ClaimRule Q)

include claims

theorem StoreRules.startParcel (k : SlotId) (sh : DataShard) (h : Q s) : Q (s.startParcel k sh) := by
  unfold State.startParcel
  dsimp only
  split
  · exact rules.poison _ _ _ _ _ _ h
  · next u z hz =>
    have hz := claims hz h
    split
    · exact rules.poison _ _ _ _ _ _ hz
    · exact rules.placeAndDrain _ _ _ _ _ hz

theorem StoreRules.takeUnbound (sh : DataShard) (h : Q s) : Q (s.takeUnbound sh) := by
  unfold State.takeUnbound
  split
  · split
    · next k _ => exact rules.startParcel claims k sh (rules.within h rfl)
    · split
      · next k _ => exact rules.startParcel claims k sh (rules.within h (s.evict_store k))
      · exact rules.within h (by simp)
  · exact rules.within h (by simp)

theorem StoreRules.judgeResting (k : SlotId) (x : Seq) (sh : DataShard) (h : Q s) : Q (s.judgeResting k x sh) := by
  have hpoison := fun g r => rules.poison k sh.thread s.aging.periodNo [] g r h
  unfold State.judgeResting
  dsimp only
  split
  · split
    · exact rules.startParcel claims k sh h
    · exact hpoison _ _
  split
  · exact rules.within h rfl
  split
  · exact hpoison _ _
  split
  · exact hpoison _ _
  split
  · exact hpoison _ _
  split
  · exact hpoison _ _
  · next _ _ hz => exact rules.within (claims hz h) rfl

theorem StoreRules.judgeAssembling (k : SlotId) (a : Assembly) (sh : DataShard) (h : Q s) :
    Q (s.judgeAssembling k a sh) := by
  have hpoison := fun g r => rules.poison k sh.thread s.aging.periodNo a.units g r h
  unfold State.judgeAssembling
  dsimp only
  split
  · exact rules.within h rfl
  split
  · exact hpoison _ _
  split
  · exact rules.within h rfl
  split
  · split
    · split
      · exact hpoison _ _
      · next _ _ hz => exact rules.within (claims hz h) rfl
    · exact rules.within h (by simp)
  split
  · exact hpoison _ _
  split
  · exact hpoison _ _
  split
  · exact hpoison _ _
  · next _ _ hz =>
    split
    · exact rules.placeAndDrain _ _ _ _ _ (claims hz h)
    · exact rules.within (claims hz h) rfl

theorem StoreRules.judgeSkipping (k : SlotId) (g : Option Tag) (sh : DataShard) (h : Q s) :
    Q (s.judgeSkipping k g sh) := by
  have hend : ∀ t x, ((s.bumpDrop .skipped).endSkip k t x).store = s.store := by
    intro t x
    unfold State.endSkip
    dsimp only
    split <;> rfl
  unfold State.judgeSkipping
  split
  · split
    · exact rules.within h (hend _ _)
    · exact rules.within h rfl
  split
  · unfold State.endSkipOnF
    dsimp only
    split
    · exact rules.startParcel claims k sh (rules.within h rfl)
    · exact rules.within h rfl
  split
  · exact rules.within h (hend _ _)
  · exact rules.within h rfl

theorem StoreRules.takeShard (sh : DataShard) (h : Q s) : Q (s.takeShard sh) := by
  unfold State.takeShard
  split
  · exact rules.takeUnbound claims sh h
  · dsimp only
    split
    · exact rules.takeUnbound claims sh h
    · exact rules.judgeResting claims _ _ sh (rules.within h rfl)
    · exact rules.judgeAssembling claims _ _ sh (rules.within h rfl)
    · exact rules.judgeSkipping claims _ _ sh (rules.within h rfl)

end Within

/-! ### Requests -/

section Between

variable {P Q : State → Prop} (rules : StoreRules P Q) {s : State}

include rules

/-- A reply after an effect that leaves the store. -/
theorem StoreRules.answer {v : State} (h : P s) (r : Request) (st : Status) (c : ReplyResult)
    (hv : v.store = s.store := by rfl) : P (v.answer r st c) :=
  rules.between h hv

theorem StoreRules.doWriteSetting (r : Request) (h : P s) : P (s.doWriteSetting r) := by
  have hdeclined := fun st => rules.answer h r st .empty
  have hquota : ∀ c v, P (s.doWriteQuota r c v) := fun c v => by
    unfold State.doWriteQuota
    split
    · next hv => exact rules.answer (rules.quota c v.toNat hv.1 hv.2 h) _ _ _
    · exact hdeclined _
  have hwarn : ∀ c v, P (s.doWriteWarn r c v) := fun c v => by
    unfold State.doWriteWarn
    split
    · next hv => exact rules.answer (rules.warn c v.toNat hv.2 h) _ _ _
    · exact hdeclined _
  have hstall : ∀ n v, P (s.doWriteStall r n v) := fun n v => rules.answer h _ _ _
  unfold State.doWriteSetting
  dsimp only
  split
  · exact hdeclined _
  · exact hdeclined _
  · unfold State.doWriteController; split <;> exact rules.answer h _ _ _
  · unfold State.doWritePeriod; split <;> exact rules.answer h _ _ _
  · unfold State.doWriteDrainLimit; split <;> exact rules.answer h _ _ _
  · exact hquota _ _
  · exact hquota _ _
  · exact hquota _ _
  · exact hquota _ _
  · exact hwarn _ _
  · exact hwarn _ _
  · exact hwarn _ _
  · exact hwarn _ _
  · unfold State.doWriteHysteresis
    split
    · exact rules.answer (rules.hysteresis _ h) _ _ _
    · exact hdeclined _
  · unfold State.doWriteNoticeMask; split <;> exact rules.answer h _ _ _
  · exact hstall _ _
  · exact hstall _ _
  · exact hstall _ _
  · exact hstall _ _
  · exact hdeclined _
  · exact hdeclined _

theorem StoreRules.writeThread (r : Request) (t : ThreadId) (c : ThreadConfig) (h : P s) : P (s.writeThread r t c) := by
  unfold State.writeThread
  split
  · exact rules.between h rfl
  · split
    · exact rules.between h rfl
    · split <;> exact rules.between h rfl
    · exact rules.between h rfl
    · exact rules.between h rfl

theorem StoreRules.cutSkipThread {p : State × Nat} (t : ThreadId) (h : Q p.1) : Q (State.cutSkipThread p t).1 := by
  unfold State.cutSkipThread
  split
  · exact h
  · split
    · exact h
    · exact h
    · exact h
    · exact rules.poison _ _ _ _ _ _ h

theorem StoreRules.cutReleaseThread {p : State × Nat × Nat} (t : ThreadId) (h : Q p.1) :
    Q (State.cutReleaseThread p t).1 := by
  unfold State.cutReleaseThread
  split
  · exact h
  · next k _ =>
    have hr := rules.releaseSlot k h
    dsimp only
    split
    · exact rules.within hr (by simp)
    · exact hr

theorem StoreRules.doCut (r : Request) (h : P s) : P (s.doCut r) := by
  unfold State.doCut
  split
  · next ts _ _ =>
    exact rules.answer (rules.settles (foldl_keeps (p := fun p : State × Nat => Q p.1)
      (fun _ t => rules.cutSkipThread t) ts (rules.begins h))) _ _ _
  · next ts _ _ =>
    exact rules.answer (rules.settles (foldl_keeps (p := fun p : State × Nat × Nat => Q p.1)
      (fun _ t => rules.cutReleaseThread t) ts (rules.begins h))) _ _ _
  · exact rules.answer h _ _ _

theorem StoreRules.flushLane (n : LaneId) (h : P s) : P (s.flushLane n) := by
  have h1 : Q (s.setLane n (s.lane n).flush) := rules.within (rules.begins h) rfl
  have h2 := foldl_keeps (fun (v : State) (d : Descriptor) => rules.returns (s := v) d.units) (s.lane n).queue h1
  unfold State.flushLane
  dsimp only
  refine rules.settles ?_
  split
  · exact h2
  · exact rules.within h2 (by simp)

theorem StoreRules.doLane (r : Request) (h : P s) : P (s.doLane r) := by
  unfold State.doLane
  split
  · exact rules.answer h _ _ _
  · exact rules.answer h _ _ _
  · exact rules.answer (rules.flushLane _ h) _ _ _
  · exact rules.answer h _ _ _

theorem StoreRules.beginDrain (r : Request) (h : P s) : P (s.beginDrain r) := by
  unfold State.beginDrain
  split <;> exact rules.between h rfl

theorem StoreRules.doDrain (r : Request) (h : P s) : P (s.doDrain r) := by
  unfold State.doDrain
  split
  · exact rules.answer h _ _ _
  · exact rules.answer h _ _ _
  · exact rules.beginDrain r (rules.between h (State.judgeClose_store _))
  · exact rules.beginDrain r (rules.between h (State.judgeClose_store _))
  · exact rules.beginDrain r h

theorem StoreRules.doReadCounters (r : Request) (h : P s) : P (s.doReadCounters r) := by
  unfold State.doReadCounters
  dsimp only
  split
  · split <;> exact rules.answer h _ _ _
  · split <;> exact rules.answer h _ _ _
  · split
    · exact rules.answer h _ _ _
    · split <;> exact rules.answer h _ _ _
  · split <;> exact rules.answer h _ _ _
  · exact rules.answer h _ _ _

theorem StoreRules.doRestart (r : Request) (h : P s) : P (s.doRestart r) := by
  unfold State.doRestart
  split
  · obtain ⟨w, hw, hs⟩ := s.restartTraffic_store
    exact rules.answer (rules.rebuild (rules.between h hw)) _ _ _ hs
  · obtain ⟨w, hw, hs⟩ := s.restartFull_store
    exact rules.answer (rules.defaults (rules.between h hw)) _ _ _ hs
  · exact rules.answer h _ _ _

theorem StoreRules.carryOut (r : Request) (h : P s) : P (s.carryOut r) := by
  unfold State.carryOut
  split
  · exact rules.answer h _ _ _
  · unfold State.doReadSetting; split <;> exact rules.answer h _ _ _
  · exact rules.doWriteSetting r h
  · unfold State.doReadThread; split <;> exact rules.answer h _ _ _
  · unfold State.doWriteThread
    split
    · exact rules.writeThread r _ _ h
    · exact rules.answer h _ _ _
  · unfold State.doReadSlot; split <;> exact rules.answer h _ _ _
  · exact rules.doCut r h
  · exact rules.doLane r h
  · exact rules.answer h _ _ _
  · exact rules.doDrain r h
  · exact rules.doReadCounters r h
  · exact rules.doRestart r h

/-! ### The engine -/

theorem StoreRules.serve (h : P s) : P s.serve := by
  have htake : ∀ {v : State}, P v → P v.takeHead := by
    intro v hv
    unfold State.takeHead
    split
    · exact hv
    · exact rules.carryOut _ (rules.between hv rfl)
  unfold State.serve
  generalize s.engine.queue.length = n
  induction n generalizing s with
  | zero => exact h
  | succ n ih =>
    unfold State.takeRequests
    split
    · exact ih (htake h)
    · exact h

theorem StoreRules.arrive (r : Request) (h : P s) : P (s.arrive r) := by
  unfold State.arrive
  split
  · exact rules.serve (rules.between h rfl)
  · split
    · dsimp only
      split
      · exact rules.serve (rules.between h rfl)
      · exact rules.between h rfl
    · exact rules.between h rfl

theorem StoreRules.requestArrives (r : Request) (h : P s) : P (s.requestArrives r) := by
  unfold State.requestArrives
  split
  · exact h
  · exact rules.arrive r h

theorem StoreRules.endDrain (r : Request) (st : Status) (h : P s) : P (s.endDrain r st) :=
  rules.serve (rules.answer h _ _ _)

theorem StoreRules.drainReport (h : P s) : P s.drainReport := by
  unfold State.drainReport
  split
  · exact h
  · split
    · exact rules.endDrain _ _ h
    · exact h

theorem StoreRules.laneReport (n : LaneId) (h : P s) : P (s.laneReport n) := by
  unfold State.laneReport
  split
  · exact rules.drainReport h
  · exact h

/-! ### Events -/

theorem StoreRules.endStartUp (h : P s) : P s.endStartUp :=
  rules.between (rules.built h) (by simp [State.endStartUp])

theorem StoreRules.takeOctets (claims : ClaimRule Q) (octets : List Byte) (h : P s) : P (s.takeOctets octets) := by
  unfold State.takeOctets
  split
  · exact h
  · split
    · exact rules.between h rfl
    · exact rules.arrive _ h
    · exact rules.settles (rules.takeShard claims _ (rules.begins h))

theorem StoreRules.takeReport (h : P s) : P s.takeReport := by
  unfold State.takeReport
  split
  · exact rules.drainReport (rules.between h rfl)
  · exact h

theorem StoreRules.takeGrant (n : LaneId) (g : Nat) (h : P s) : P (s.takeGrant n g) := by
  unfold State.takeGrant
  dsimp only
  split <;> exact rules.between h rfl

theorem StoreRules.endEmission (n : LaneId) (d : Descriptor) (h : P s) : P (s.endEmission n d) :=
  rules.settles (rules.afterReturn (chain := d.units) (by simp) (rules.begins h))

theorem StoreRules.stallDiscard (n : LaneId) (d : Descriptor) (rest : List Descriptor) (h : P s) :
    P (s.stallDiscard n d rest) :=
  rules.settles (rules.within (rules.returns (s := s.setLane n { s.lane n with queue := rest }) d.units
    (rules.within (rules.begins h) rfl)) (by simp))

theorem StoreRules.expireStall (n : LaneId) (h : P s) : P (s.expireStall n) := by
  unfold State.expireStall
  split
  · split
    · exact h
    · exact rules.laneReport n (rules.stallDiscard n _ _ h)
  · exact h

theorem StoreRules.oweScan (h : P s) : P s.oweScan := by
  unfold State.oweScan
  split
  · exact rules.between h rfl
  · split <;> exact rules.between h rfl

theorem StoreRules.visit (k : SlotId) (h : P s) : P (s.visit k) := by
  have hreap : ∀ t stamp, P (s.reapIfOld k t stamp) := by
    intro t stamp
    unfold State.reapIfOld
    split
    · exact rules.settles (rules.within (rules.releaseSlot k (rules.begins h)) (by simp))
    · exact h
  unfold State.visit
  split
  · exact h
  · exact h
  · exact hreap _ _
  · exact hreap _ _

theorem StoreRules.endReturnShard (h : P s) : P s.endReturnShard := by
  have h1 : P ({ s with ret := { s.ret with onLink := none } }.arbitrate) := rules.between h rfl
  unfold State.endReturnShard
  dsimp only
  split
  · exact rules.serve h1
  · exact h1
  · exact h1
  · exact h1

/-- Every command keeps a law of the store whose rules are met; a shard's arrival needs the rule of the claim too. -/
theorem StoreRules.exec {i : Instr} {t : State} (claims : (∃ v, i = .shardArrival v) → ClaimRule Q)
    (hexec : exec i s = .next t) (h : P s) : P t := by
  have hrequest : ∀ r, Machine.exec i s = .next (s.requestArrives r) → P t := fun r hr => by
    cases hr.symm.trans hexec
    exact rules.requestArrives r h
  cases i
  case resetnAssert =>
    cases hexec
    exact rules.reset h
  case resetnRelease =>
    cases hexec
    split
    · exact rules.between h rfl
    · exact h
  case endOfStartUp =>
    cases hexec
    split
    · exact rules.endStartUp h
    · exact h
  case shardArrival v =>
    cases hexec
    exact rules.takeOctets (claims ⟨v, rfl⟩) _ h
  case closeJudgement =>
    cases hexec
    split
    · exact h
    · exact rules.takeReport (rules.between h rfl)
  case grant n w =>
    cases hexec
    split
    · exact h
    · exact rules.takeGrant _ _ h
  case emissionEnd n =>
    cases hexec
    split
    · exact h
    · exact rules.laneReport n (rules.endEmission n _ h)
  case stallExpiry n =>
    cases hexec
    exact rules.expireStall n h
  case periodExpiry =>
    cases hexec
    split
    · exact rules.oweScan (rules.between h rfl)
    · exact h
  case scanVisit =>
    cases hexec
    split
    · exact h
    · exact rules.between (rules.visit _ h) rfl
  case drainTimerExpiry =>
    cases hexec
    split
    · exact rules.endDrain _ _ h
    · exact h
  case returnShardEnd =>
    cases hexec
    split
    · exact rules.endReturnShard h
    · exact h
  all_goals exact hrequest _ rfl

/-- Every step keeps a law of the store whose rules are met. -/
theorem StoreRules.step (claims : ClaimRule Q) {t : State} (hstep : step s = .next t) (h : P s) : P t := by
  unfold Machine.step at hstep
  split at hstep
  · cases hstep
    exact h
  · exact rules.exec (fun _ => claims) hstep (rules.between h rfl)

end Between

end Sys2Proof.Machine
end

section
/-! SUPPORT. The laws of the store that every step keeps, each by its rules: the octets, the levels and the congestion states (04 R64, R69, R72, R73, R75 to R78). -/

namespace Sys2Proof.Machine

/-! ### The octets of the store units (04 R64) -/

/-- Only a claim writes octets: whatever is said of the octets alone is kept by every other operation. -/
theorem StoreRules.octets (p : List Host.Cell → Prop) :
    StoreRules (fun s => p s.store.octets) (fun s => p s.store.octets) where
  between h hv := by rw [hv]; exact h
  within h hv := by rw [hv]; exact h
  begins h := h
  returns chain h := by rw [State.returnChain_octets]; exact h
  settles h := by rw [State.settleReturns_octets]; exact h
  quota _ _ _ _ h := h
  warn _ _ _ h := by rw [State.rejudge_octets]; exact h
  hysteresis v h := by simpa [classIds] using h
  rebuild h := by rw [State.rebuildStore_octets]; exact h
  defaults {s} h := by
    have hd : s.rebuildStore.restoreDefaults.store.octets = s.rebuildStore.store.octets := rfl
    rw [hd, State.rebuildStore_octets]
    exact h
  built h := h
  reset h := h

theorem State.claim_octets {s z : State} {c : ClassId} {p : List Byte} {u : UnitNo} (h : s.claim c p = .taken u z) :
    z.store.octets = Memory.writeAll s.store.octets (unitAddress u) p := by
  obtain ⟨-, rest, -, rfl⟩ := (State.claim_taken_iff s z c p u).mp h
  simp

/-- A claim keeps the canonical form of the octets. -/
theorem State.memoryLaw_claim : ClaimRule State.memoryLaw := fun h hs => by
  unfold State.memoryLaw
  rw [State.claim_octets h]
  exact Memory.wf_writeAll _ _ _ hs

/-! ### The levels (04 R69) -/

/-- A warn level that does not exceed its quota, both in range. -/
def ClassAccount.levels (a : ClassAccount) : Prop := a.warn ≤ a.quota ∧ a.quota ≤ 8192

theorem ClassAccount.sameLevels.levels {a b : ClassAccount} (h : a.sameLevels b) (ha : a.levels) : b.levels := by
  unfold ClassAccount.levels
  rw [h.warn, h.quota]
  exact ha

theorem State.quotaLaw_setCls {s : State} {c : ClassId} {a : ClassAccount} (h : s.quotaLaw) (ha : a.levels) :
    (s.setCls c a).quotaLaw := fun d => by
  rw [State.cls_setCls]
  split
  · exact ha
  · exact h d

theorem State.quotaLaw_rejudge {s : State} (c : ClassId) (h : s.quotaLaw) : (s.rejudge c).quotaLaw := fun d => by
  rw [State.cls_rejudge]
  split
  · exact (ClassAccount.rejudged_sameLevels _ _).levels (h c)
  · exact h d

theorem State.quotaLaw_congr {s v : State} (h : s.quotaLaw) (hv : v.store = s.store) : v.quotaLaw := fun c => by
  rw [State.cls_congr s v c hv]
  exact h c

theorem State.cls_restoreDefaults (s : State) (c : ClassId) :
    s.restoreDefaults.cls c = { s.cls c with quota := 2048, warn := 1536 } := by
  simp [State.cls, State.restoreDefaults]

theorem State.cls_resetAll (s : State) (c : ClassId) : s.resetAll.cls c = ClassAccount.default := by
  simp [State.cls, State.resetAll, State.reset]

theorem StoreRules.levels : StoreRules State.quotaLaw State.quotaLaw where
  between := State.quotaLaw_congr
  within := State.quotaLaw_congr
  begins h := h
  returns chain h := State.returnChain_induct (p := fun _ => ClassAccount.levels) (fun _ _ ha => ha) _ chain h
  settles h c := by
    rw [State.cls_settleReturns]
    exact (ClassAccount.settled_sameLevels _ _).levels (h c)
  quota c v hv hw h := State.quotaLaw_setCls h ⟨hw, hv⟩
  warn c v hv h := State.quotaLaw_rejudge c (State.quotaLaw_setCls h ⟨hv, (h c).2⟩)
  hysteresis v h c := by
    rw [State.cls_foldl_rejudge]
    exact (ClassAccount.rejudged_sameLevels _ _).levels (h c)
  rebuild h c := by
    rw [State.cls_rebuildStore]
    exact h c
  defaults _ c := by
    rw [State.cls_restoreDefaults]
    simp
  built h := h
  reset _ c := by
    rw [State.cls_resetAll]
    exact ⟨by decide, by decide⟩

theorem State.quotaLaw_claim : ClaimRule State.quotaLaw := fun {s _ c _ _} h hs d => by
  rw [State.claim_cls h]
  split
  · exact (ClassAccount.risen_sameLevels _).levels (hs c)
  · exact hs d

/-! ### The congestion states (04 R72, R73, R78) -/

/-- An account as the judgements leave it, `h` being the HYSTERESIS setting. -/
def ClassAccount.judged (h : Nat) (a : ClassAccount) : Prop :=
  (a.congested = false → a.usage < a.warn ∨ a.usage = 0) ∧
    (a.congested = true → a.warn - h < a.usage ∨ a.warn ≤ a.usage)

/-- An account within a step: as the judgements leave it, but for a fall that is owed. -/
def ClassAccount.judgedSoFar (h : Nat) (a : ClassAccount) : Prop :=
  (a.congested = false → a.usage < a.warn ∨ a.usage = 0) ∧
    (a.fallOwed = false → a.congested = true → a.warn - h < a.usage ∨ a.warn ≤ a.usage)

theorem ClassAccount.judgedSoFar_risen {h : Nat} {a : ClassAccount} (ha : a.judgedSoFar h) :
    ({ a with usage := a.usage + 1 }.risen).judgedSoFar h := by
  obtain ⟨hclear, hcong⟩ := ha
  unfold ClassAccount.risen
  split
  · next hr => exact ⟨nofun, fun _ _ => .inr hr.2⟩
  · next hr =>
    refine ⟨fun hc => .inl (Nat.not_le.mp fun hle => hr ⟨hc, hle⟩), fun ho hc => ?_⟩
    have := hcong ho hc
    dsimp only
    omega

theorem ClassAccount.judgedSoFar_uncounted {h : Nat} {a : ClassAccount} (ha : a.judgedSoFar h) :
    ClassAccount.judgedSoFar h { a with usage := a.usage - 1, fallOwed := true } := by
  refine ⟨fun hc => ?_, nofun⟩
  have := ha.1 hc
  dsimp only
  omega

/-- The judgement of a fall, made where it is owed, leaves none owed and the account judged (04 R73). -/
theorem ClassAccount.judged_fallen {h : Nat} {a : ClassAccount}
    (ha : a.congested = false → a.usage < a.warn ∨ a.usage = 0) : (a.fallen h).judged h := by
  unfold ClassAccount.fallen
  split
  · next hf => exact ⟨fun _ => .inl hf.2.2, nofun⟩
  · next hf =>
    refine ⟨ha, fun hc => ?_⟩
    by_contra hn
    exact hf ⟨hc, by omega, by omega⟩

theorem ClassAccount.judged_settled {h : Nat} {a : ClassAccount} (ha : a.judgedSoFar h) : (a.settled h).judged h := by
  unfold ClassAccount.settled
  split
  · exact ClassAccount.judged_fallen ha.1
  · next ho => exact ⟨ha.1, ha.2 (Bool.eq_false_of_not_eq_true ho)⟩

theorem ClassAccount.fallOwed_fallen (h : Nat) (a : ClassAccount) : (a.fallen h).fallOwed = a.fallOwed := by
  unfold ClassAccount.fallen
  split <;> rfl

theorem ClassAccount.fallOwed_settled (h : Nat) (a : ClassAccount) : (a.settled h).fallOwed = false := by
  unfold ClassAccount.settled
  split
  · exact ClassAccount.fallOwed_fallen _ _
  · next ho => exact Bool.eq_false_of_not_eq_true ho

/-- A re-judgement leaves the account judged, whatever its levels were before (04 R78). -/
theorem ClassAccount.judged_rejudged (h : Nat) (a : ClassAccount) : (a.rejudged h).judged h := by
  unfold ClassAccount.rejudged
  split
  · next hc => exact ClassAccount.judged_fallen fun hn => absurd (hc.symm.trans hn) nofun
  · unfold ClassAccount.risen
    split
    · next hr => exact ⟨nofun, fun _ => .inr hr.2⟩
    · next hc hr => exact ⟨fun hn => .inl (Nat.not_le.mp fun hle => hr ⟨hn, hle⟩), fun hn => absurd hn hc⟩

theorem ClassAccount.fallOwed_rejudged (h : Nat) (a : ClassAccount) : (a.rejudged h).fallOwed = a.fallOwed := by
  unfold ClassAccount.rejudged ClassAccount.risen
  split
  · exact ClassAccount.fallOwed_fallen _ _
  · split <;> rfl

/-- The congestion law, account by account. -/
theorem State.congestionLaw_iff (s : State) :
    s.congestionLaw ↔ ∀ c, (s.cls c).fallOwed = false ∧ (s.cls c).judged s.store.hysteresis := by
  simp only [State.congestionLaw, ClassAccount.judged, State.clearLevel_eq]

/-- The congestion law within a step. -/
def State.congestionSoFar (s : State) : Prop := ∀ c, (s.cls c).judgedSoFar s.store.hysteresis

theorem State.congestionSoFar_congr {s v : State} (h : s.congestionSoFar) (hv : v.store = s.store) :
    v.congestionSoFar := fun c => by
  rw [State.cls_congr s v c hv, hv]
  exact h c

theorem State.foldl_rejudge_hysteresis (s : State) :
    (classIds.foldl State.rejudge s).store.hysteresis = s.store.hysteresis := by
  simp [classIds]

/-- An account that holds nothing, CLEAR and with no fall owed, is judged. -/
theorem ClassAccount.judged_of_clear {a : ClassAccount} (h : Nat) (hc : a.congested = false) (hu : a.usage = 0) :
    a.judged h :=
  ⟨fun _ => .inr hu, fun hn => absurd (hc.symm.trans hn) nofun⟩

theorem StoreRules.congestion : StoreRules State.congestionLaw State.congestionSoFar where
  between {s v} h hv := by
    rw [State.congestionLaw_iff] at h ⊢
    intro c
    rw [State.cls_congr s v c hv, hv]
    exact h c
  within := State.congestionSoFar_congr
  begins {s} h c := by
    obtain ⟨-, hclear, hcong⟩ := s.congestionLaw_iff.mp h c
    exact ⟨hclear, fun _ => hcong⟩
  returns {s} chain h c := by
    rw [State.returnChain_hysteresis]
    exact State.returnChain_induct (p := fun _ => ClassAccount.judgedSoFar s.store.hysteresis)
      (fun _ _ => ClassAccount.judgedSoFar_uncounted) s chain h c
  settles {s} h := by
    rw [State.congestionLaw_iff]
    intro c
    rw [State.cls_settleReturns, State.settleReturns_hysteresis]
    exact ⟨ClassAccount.fallOwed_settled _ _, ClassAccount.judged_settled (h c)⟩
  quota {s} c v _ _ h := by
    rw [State.congestionLaw_iff] at h ⊢
    intro d
    rw [State.cls_setCls]
    split
    · exact h c
    · exact h d
  warn {s} c v _ h := by
    rw [State.congestionLaw_iff] at h ⊢
    intro d
    rw [State.cls_rejudge, State.rejudge_hysteresis]
    split
    · refine ⟨(ClassAccount.fallOwed_rejudged _ _).trans ?_, ClassAccount.judged_rejudged _ _⟩
      rw [State.cls_setCls_self]
      exact (h c).1
    · next hd =>
      rw [State.cls_setCls_ne _ _ _ _ hd]
      exact h d
  hysteresis {s} v h := by
    rw [State.congestionLaw_iff] at h ⊢
    intro c
    rw [State.cls_foldl_rejudge, State.foldl_rejudge_hysteresis]
    exact ⟨(ClassAccount.fallOwed_rejudged _ _).trans (h c).1, ClassAccount.judged_rejudged _ _⟩
  rebuild {s} _ := by
    rw [State.congestionLaw_iff]
    intro c
    rw [State.cls_rebuildStore]
    exact ⟨rfl, ClassAccount.judged_of_clear _ rfl rfl⟩
  defaults {s} _ := by
    rw [State.congestionLaw_iff]
    intro c
    rw [State.cls_restoreDefaults, State.cls_rebuildStore]
    exact ⟨rfl, ClassAccount.judged_of_clear _ rfl rfl⟩
  built h := h
  reset {s} _ := by
    rw [State.congestionLaw_iff]
    intro c
    rw [State.cls_resetAll]
    exact ⟨rfl, ClassAccount.judged_of_clear _ rfl rfl⟩

theorem State.congestionSoFar_claim : ClaimRule State.congestionSoFar := fun {s z c p u} h hs d => by
  have hhyst : z.store.hysteresis = s.store.hysteresis := by
    obtain ⟨-, rest, -, rfl⟩ := (State.claim_taken_iff s z c p u).mp h
    simp
  rw [State.claim_cls h, hhyst]
  split
  · exact ClassAccount.judgedSoFar_risen (hs c)
  · exact hs d

end Sys2Proof.Machine

open Sys2Proof Sys2Proof.Machine

/-- Settles O5: only a claim writes octets, and its write keeps the canonical form. -/
theorem stepKeepsMemoryCanonical : Obligations.StepKeepsMemoryCanonical := fun _ _ =>
  (StoreRules.octets fun m => Memory.wf m = true).step State.memoryLaw_claim

/-- Settles O7: claims, returns and judgements leave the levels, and each write of a level is checked against the other. -/
theorem stepKeepsWarnWithinQuota : Obligations.StepKeepsWarnWithinQuota := fun _ _ =>
  StoreRules.levels.step State.quotaLaw_claim

/-- Settles O8: within a step only a fall may be owed, and the step's last judgements leave none. -/
theorem stepKeepsCongestionJudged : Obligations.StepKeepsCongestionJudged := fun _ _ =>
  StoreRules.congestion.step State.congestionSoFar_claim

/-- Settles O13: without a shard there is no claim, and nothing else writes octets. -/
theorem onlyShardArrivalsWriteUnitOctets : Obligations.OnlyShardArrivalsWriteUnitOctets := fun _ s _ hi hexec =>
  (StoreRules.octets fun m => m = s.store.octets).exec (fun ⟨v, hv⟩ => absurd hv (hi v)) hexec rfl

end

section
/-! SUPPORT. Claims, returned chains and re-judgements, each by what it writes of the free list, the class records and the classes (04 R64 to R68, R71, R73, R74, R78). -/

namespace Sys2Proof.Machine

/-! ### A claim (04 R64, R67, R68) -/

theorem State.takeUnit_unitClass (s : State) (c : ClassId) (p : List Byte) (u : UnitNo) (r : List UnitNo) :
    (s.takeUnit c p u r).store.unitClass = s.store.unitClass.set u.val (some c) := rfl

/-- What a successful claim writes: the head of the free list, its octets and class record, and the account of the class
(04 R64, R65, R67). -/
structure State.ClaimedTo (s z : State) (c : ClassId) (payload : List Byte) (u : UnitNo) : Prop where
  freeList : s.store.freeList = u :: z.store.freeList
  octets : z.store.octets = Memory.writeAll s.store.octets (unitAddress u) payload
  unitClass : z.store.unitClass = s.store.unitClass.set u.val (some c)
  usage : (z.cls c).usage = (s.cls c).usage + 1
  others : ∀ d, d ≠ c → z.cls d = s.cls d
  slots : z.slots = s.slots
  threads : z.threads = s.threads
  lanes : z.lanes = s.lanes
  mode : z.mode = s.mode

theorem State.claim_claimedTo {s z : State} {c : ClassId} {p : List Byte} {u : UnitNo} (h : s.claim c p = .taken u z) :
    s.ClaimedTo z c p u := by
  have hcls := State.claim_cls h
  have hoctets := State.claim_octets h
  obtain ⟨-, rest, hf, rfl⟩ := (State.claim_taken_iff s z c p u).mp h
  refine ⟨by simpa using hf, hoctets, by simp [State.takeUnit_unitClass], ?_, fun d hd => ?_, by simp, by simp, by simp,
    by simp⟩
  · rw [hcls, if_pos rfl]
    exact (ClassAccount.risen_sameLevels _).usage
  · rw [hcls, if_neg hd]

theorem State.ClaimedTo.unitClass_self {s z : State} {c : ClassId} {p : List Byte} {u : UnitNo}
    (h : s.ClaimedTo z c p u) : z.store.unitClass[u.val] = some c := by
  simp [h.unitClass]

theorem State.ClaimedTo.unitClass_ne {s z : State} {c : ClassId} {p : List Byte} {u w : UnitNo}
    (h : s.ClaimedTo z c p u) (hw : w ≠ u) : z.store.unitClass[w.val] = s.store.unitClass[w.val] := by
  have hne : u.val ≠ w.val := fun e => hw (Fin.ext e.symm)
  simp [h.unitClass, hne]

/-! ### A returned chain (04 R65, R67, R71) -/

theorem State.unitClass_uncountUnit (s : State) (u w : UnitNo) : (s.uncountUnit u).store.unitClass[w.val] =
    if w = u then none else s.store.unitClass[w.val] := by
  cases hu : s.store.unitClass[u.val] with
  | none =>
    rw [State.uncountUnit_none hu]
    split
    · next h => rw [h, hu]
    · rfl
  | some c =>
    simp only [State.uncountUnit, hu]
    by_cases h : w = u
    · subst h; simp [State.setCls]
    · have hne : u.val ≠ w.val := fun e => h (Fin.ext e.symm)
      simp [State.setCls, h, hne]

theorem State.unitClass_returnChain (s : State) (chain : List UnitNo) (w : UnitNo) :
    (s.returnChain chain).store.unitClass[w.val] = if w ∈ chain then none else s.store.unitClass[w.val] := by
  show (chain.foldl State.uncountUnit s).store.unitClass[w.val] = _
  induction chain generalizing s with
  | nil => rfl
  | cons u chain ih =>
    rw [List.foldl_cons, ih, State.unitClass_uncountUnit]
    by_cases hw : w = u
    · simp [hw]
    · simp [hw]

theorem State.usage_uncountUnit (s : State) (u : UnitNo) (c : ClassId) : ((s.uncountUnit u).cls c).usage =
    (s.cls c).usage - if s.store.unitClass[u.val] == some c then 1 else 0 := by
  cases hu : s.store.unitClass[u.val] with
  | none => rw [State.uncountUnit_none hu]; rfl
  | some d =>
    rw [State.cls_uncountUnit hu]
    by_cases hc : c = d
    · subst hc; simp
    · simp [hc, Ne.symm hc]

/-- Each class's usage falls by the number of returned units that were claimed for it (04 R67, R71). -/
theorem State.usage_returnChain {s : State} {chain : List UnitNo} (hn : chain.Nodup) (c : ClassId) :
    ((s.returnChain chain).cls c).usage =
      (s.cls c).usage - chain.countP (fun u => s.store.unitClass[u.val] == some c) := by
  show ((chain.foldl State.uncountUnit s).cls c).usage = _
  induction chain generalizing s with
  | nil => rfl
  | cons u chain ih =>
    obtain ⟨hu, hn'⟩ := List.nodup_cons.mp hn
    have hrest : chain.countP (fun w => (s.uncountUnit u).store.unitClass[w.val] == some c) =
        chain.countP (fun w => s.store.unitClass[w.val] == some c) :=
      List.countP_congr fun w hw => by
        rw [State.unitClass_uncountUnit, if_neg (ne_of_mem_of_not_mem hw hu)]
    rw [List.foldl_cons, ih hn', hrest, State.usage_uncountUnit, List.countP_cons]
    omega

/-- A returned chain leaves every setting and every congestion state (04 R71). -/
theorem State.settings_returnChain (s : State) (chain : List UnitNo) (c : ClassId) :
    ((s.returnChain chain).cls c).quota = (s.cls c).quota ∧ ((s.returnChain chain).cls c).warn = (s.cls c).warn ∧
      ((s.returnChain chain).cls c).congested = (s.cls c).congested :=
  State.returnChain_induct
    (p := fun c a => a.quota = (s.cls c).quota ∧ a.warn = (s.cls c).warn ∧ a.congested = (s.cls c).congested)
    (fun _ _ ha => ha) s chain (fun _ => ⟨rfl, rfl, rfl⟩) c

/-! ### A change handed on (04 R74, 10 R152, R159) -/

theorem Vector.toList_four {α : Type} (v : Vector α 4) : v.toList = [v[0], v[1], v[2], v[3]] := by
  apply List.ext_getElem
  · simp
  · intro i _ hi
    have hi' : i < 4 := hi
    interval_cases i <;> simp

/-- A congestion status carries the four flags and the four usages as they stand (10 R160). -/
theorem State.congestionContent_eq (s : State) : s.store.congestionContent =
    .congestion [(s.cls 0).congested, (s.cls 1).congested, (s.cls 2).congested, (s.cls 3).congested]
      [(s.cls 0).usage, (s.cls 1).usage, (s.cls 2).usage, (s.cls 3).usage] := by
  unfold Store.congestionContent
  rw [Vector.toList_four]
  rfl

/-- A pending congestion status stays pending, or it is what the arbiter begins on an IDLE link (10 R152). -/
theorem ReturnLink.arbitrate_pending (r : ReturnLink) (c : ReturnContent) (h : r.congestionPending = true) :
    (r.arbitrate c).congestionPending = true ∨ r.onLink = none ∧ (r.arbitrate c).onLink = some ⟨r.sequence, c⟩ := by
  cases hl : r.onLink with
  | some p =>
    rw [ReturnLink.arbitrate_busy r c (by rw [hl]; rfl)]
    exact .inl h
  | none =>
    cases hh : r.fullRestartHold with
    | false =>
      rw [ReturnLink.arbitrate_congestion r c hl h hh]
      exact .inr ⟨rfl, rfl⟩
    | true =>
      left
      have hp : (r.congestionPending && !r.fullRestartHold) = false := by simp [hh]
      rcases hr : r.replies with _ | ⟨p, rest⟩
      · rcases hn : r.notices with _ | ⟨n, rest⟩
        · rw [ReturnLink.arbitrate_nothing r c hp hr hn]
          exact h
        · rw [ReturnLink.arbitrate_notice r c n rest hl hp hr hn]
          exact h
      · rw [ReturnLink.arbitrate_reply r c p rest hl hp hr]
        exact h

/-- What a congestion change moves: the state of its class, the count of changes, and the status pending or begun. -/
theorem State.changeCongestion_moves (s : State) (c : ClassId) (b : Bool) :
    let t := s.changeCongestion c b
    t.cls c = { s.cls c with congested := b } ∧
      t.device .congestionChanges = s.device .congestionChanges + 1 ∧ (∀ d, d ≠ c → t.cls d = s.cls d) ∧
      (t.ret.congestionPending = true ∨ s.ret.onLink = none ∧ t.ret.onLink =
        some ⟨s.ret.sequence, .congestion [(t.cls 0).congested, (t.cls 1).congested, (t.cls 2).congested,
          (t.cls 3).congested] [(t.cls 0).usage, (t.cls 1).usage, (t.cls 2).usage, (t.cls 3).usage]⟩) := by
  intro t
  refine ⟨(s.cls_changeCongestion c c b).trans (if_pos rfl), ?_, fun d hd =>
    (s.cls_changeCongestion c d b).trans (if_neg hd), ?_⟩
  · exact State.device_bumpDevice_self _ _
  · rw [← State.congestionContent_eq]
    exact ReturnLink.arbitrate_pending { s.ret with congestionPending := true } _ rfl

end Sys2Proof.Machine

open Sys2Proof Sys2Proof.Machine

/-- Settles O34: the two failures by the order of the checks, the success by what a claim writes. -/
theorem claimIsJudgedInOrder : Obligations.ClaimIsJudgedInOrder := by
  intro s c payload
  refine ⟨s.claim_quota c payload, s.claim_store c payload, fun u rest hq hf => ?_⟩
  have hclaim := s.claim_success c payload u rest hq hf
  have h := State.claim_claimedTo hclaim
  exact ⟨_, hclaim, by simp, h.unitClass_self, h.usage, h.others, fun w => h.unitClass_ne,
    fun hm hp => State.unitOctets_written hm hp h.octets, h.slots, h.threads, h.lanes⟩

/-- Settles O35: the only octets a claim writes are those of the unit it takes. -/
theorem claimWritesOneUnit : Obligations.ClaimWritesOneUnit := by
  intro s t c payload u hm hp hclaim
  have hoctets := State.claim_octets hclaim
  exact ⟨fun a => State.read_outside hm hp hoctets, fun w => State.unitOctets_other hm hp hoctets,
    State.memoryLaw_claim hclaim hm⟩

/-- Settles O36: unit by unit along the chain, each with the class record it had before the chain was returned. -/
theorem returnedChainJoinsTheTail : Obligations.ReturnedChainJoinsTheTail := by
  intro s chain hn _
  exact ⟨s.returnChain_freeList chain, s.returnChain_octets chain,
    fun u hu => (s.unitClass_returnChain chain u).trans (if_pos hu),
    fun u hu => (s.unitClass_returnChain chain u).trans (if_neg hu),
    fun c => ⟨State.usage_returnChain hn c, s.settings_returnChain chain c⟩⟩

/-- Settles O37: a CLEAR class is judged by R72 and a CONGESTED one by R73, each change as `changeCongestion_moves` has
it. -/
theorem rejudgementMovesCongestion : Obligations.RejudgementMovesCongestion := by
  intro s c
  have hclear := s.clearLevel_eq c
  refine ⟨fun hc hw => ?rises, fun hc hu hw => ?falls, fun hc hw => ?staysClear, fun hc hu => ?staysCongested⟩
  case rises =>
    have h : s.rejudge c = s.changeCongestion c true := by simp [State.rejudge, State.judgeRise, hc, hw]
    rw [h]
    exact s.changeCongestion_moves c true
  case falls =>
    have h : s.rejudge c = s.changeCongestion c false := by simp [State.rejudge, State.judgeFall, hc, hu, hw, hclear]
    rw [h]
    exact s.changeCongestion_moves c false
  case staysClear => simp [State.rejudge, State.judgeRise, hc, Nat.not_le.mpr hw]
  case staysCongested =>
    have hno : ¬ ((s.cls c).usage ≤ (s.cls c).warn - s.store.hysteresis ∧ (s.cls c).usage < (s.cls c).warn) := by omega
    simp only [State.rejudge, State.judgeFall, hc, hclear, hno, if_true, true_and, if_false]

end

section
/-! SUPPORT. The books of the store: every unit free or held in one place, a class record for each unit held, the usages counting them; and what claims, returns and the lanes do to them (04 R64 to R67, R71, 06 6.1). -/

namespace Sys2Proof.Machine

/-! ### The books against a list of units held -/

/-- The units the store accounts for: none in STARTING, all 8192 outside it (04 R66, R79). -/
def State.allUnits (s : State) : List UnitNo := if s.mode = .starting then [] else List.finRange 8192

theorem State.allUnits_nodup (s : State) : s.allUnits.Nodup := by
  unfold State.allUnits
  split
  · exact List.nodup_nil
  · exact List.nodup_finRange 8192

theorem State.allUnits_of_mode {s v : State} (h : v.mode = s.mode) : v.allUnits = s.allUnits := by
  simp only [State.allUnits, h]

/-- The class records stand for the units held, and the usages count them (04 R64, R67). -/
structure State.Records (s : State) (held : List UnitNo) : Prop where
  record : ∀ u : UnitNo, s.store.unitClass[u.val] = none ↔ u ∉ held
  usage : ∀ c : ClassId, (s.cls c).usage = s.classCount c

/-- The units held and the free list make up the units the store accounts for, with the class records in step. -/
structure State.Books (s : State) (held : List UnitNo) : Prop where
  placed : (held ++ s.store.freeList).Perm s.allUnits
  records : s.Records held

theorem State.Books.perm {s : State} {held held' : List UnitNo} (h : s.Books held) (hp : held.Perm held') :
    s.Books held' :=
  ⟨(hp.symm.append_right _).trans h.placed, ⟨fun u => (h.records.record u).trans (not_congr hp.mem_iff), h.records.usage⟩⟩

theorem State.Books.nodup {s : State} {held : List UnitNo} (h : s.Books held) : (held ++ s.store.freeList).Nodup :=
  h.placed.nodup_iff.mpr s.allUnits_nodup

/-- The books speak of the free list, the class records, the usages and the mode alone. -/
structure State.SameBooks (s v : State) : Prop where
  freeList : v.store.freeList = s.store.freeList
  unitClass : v.store.unitClass = s.store.unitClass
  usage : ∀ c, (v.cls c).usage = (s.cls c).usage
  all : v.allUnits = s.allUnits

theorem State.SameBooks.of_store {s v : State} (hs : v.store = s.store) (hm : v.mode = s.mode) : s.SameBooks v :=
  ⟨by rw [hs], by rw [hs], fun c => by rw [State.cls_congr s v c hs], State.allUnits_of_mode hm⟩

theorem State.Books.congr {s v : State} {held : List UnitNo} (h : s.Books held) (hv : s.SameBooks v) : v.Books held := by
  refine ⟨by rw [hv.freeList, hv.all]; exact h.placed, fun u => ?_, fun c => ?_⟩
  · simp only [hv.unitClass]
    exact h.records.record u
  · rw [hv.usage, h.records.usage]
    simp only [State.classCount, hv.unitClass]

/-! ### Claims and returns -/

/-- A class record written moves the counts of its old and its new class. -/
theorem classCount_set (v : Vector (Option ClassId) 8192) (u : UnitNo) (r : Option ClassId) (c : ClassId) :
    (v.set u.val r).toList.countP (fun x => x == some c) =
      v.toList.countP (fun x => x == some c) - (if v[u.val] == some c then 1 else 0) + if r == some c then 1 else 0 := by
  rw [Vector.toList_set, List.countP_set]
  · simp
  · simp

theorem State.Books.claim {s z : State} {held : List UnitNo} {c : ClassId} {p : List Byte} {u : UnitNo}
    (h : s.Books held) (hz : s.ClaimedTo z c p u) : z.Books (u :: held) := by
  have hmoved : ((u :: held) ++ z.store.freeList).Perm (held ++ s.store.freeList) := by
    rw [hz.freeList]
    exact List.perm_middle.symm
  have hu : u ∉ held := by
    have hn := hmoved.nodup_iff.mpr h.nodup
    rw [List.cons_append, List.nodup_cons] at hn
    exact fun hu => hn.1 (List.mem_append_left _ hu)
  have hnone := (h.records.record u).mpr hu
  refine ⟨?_, fun w => ?_, fun d => ?_⟩
  · rw [State.allUnits_of_mode hz.mode]
    exact hmoved.trans h.placed
  · by_cases hw : w = u
    · subst hw; simp [hz.unitClass_self]
    · simp [hz.unitClass_ne hw, hw, h.records.record w]
  · have hcount : z.classCount d = s.classCount d + if c = d then 1 else 0 := by
      rw [State.classCount, State.classCount, hz.unitClass, classCount_set, hnone]
      simp
    rw [hcount]
    by_cases hd : d = c
    · subst hd; simp [hz.usage, h.records.usage]
    · simp [hz.others d hd, h.records.usage, Ne.symm hd]

theorem State.Records.uncountUnit {s : State} {u : UnitNo} {held : List UnitNo} (h : s.Records (u :: held))
    (hu : u ∉ held) : (s.uncountUnit u).Records held := by
  obtain ⟨c, hc⟩ : ∃ c, s.store.unitClass[u.val] = some c :=
    Option.ne_none_iff_exists'.mp fun hn => (h.record u).mp hn List.mem_cons_self
  refine ⟨fun w => ?_, fun d => ?_⟩
  · rw [State.unitClass_uncountUnit]
    by_cases hw : w = u
    · simp [hw, hu]
    · simp [hw, h.record w]
  · have hcount : (s.uncountUnit u).classCount d = s.classCount d - if c = d then 1 else 0 := by
      simp only [State.classCount, State.uncountUnit, hc, State.setCls, classCount_set]
      simp
    rw [State.usage_uncountUnit, hcount, h.usage, hc]
    simp

/-- A returned chain that is held leaves the rest held (04 R65, R71). -/
theorem State.Books.returnChain {s : State} {chain held : List UnitNo} (h : s.Books (chain ++ held)) :
    (s.returnChain chain).Books held := by
  refine ⟨?_, ?_⟩
  · rw [State.returnChain_freeList, State.allUnits_of_mode (State.returnChain_mode s chain)]
    refine List.Perm.trans ?_ h.placed
    rw [List.perm_iff_count]
    intro u
    simp only [List.count_append]
    omega
  · have hn : (chain ++ held).Nodup := h.nodup.of_append_left
    have hr := h.records
    have hfold : (chain.foldl State.uncountUnit s).Records held := by
      clear h
      induction chain generalizing s with
      | nil => exact hr
      | cons u chain ih =>
        rw [List.cons_append, List.nodup_cons] at hn
        exact ih (s := s.uncountUnit u) (hr := hr.uncountUnit hn.1) hn.2
    exact ⟨hfold.record, hfold.usage⟩

/-- Several chains returned one after another. -/
theorem State.Books.returnChains (ds : List Descriptor) {s : State} {held : List UnitNo}
    (h : s.Books (ds.flatMap Descriptor.units ++ held)) :
    (ds.foldl (fun t d => t.returnChain d.units) s).Books held := by
  induction ds generalizing s with
  | nil => exact h
  | cons d ds ih =>
    rw [List.flatMap_cons, List.append_assoc] at h
    exact ih h.returnChain

/-! ### The unit law and the books -/

theorem State.classCount_eq_zero {s : State} (h : ∀ u : UnitNo, s.store.unitClass[u.val] = none) (c : ClassId) :
    s.classCount c = 0 := by
  unfold State.classCount
  rw [List.countP_eq_zero]
  intro r hr
  obtain ⟨i, hi, rfl⟩ := List.getElem_of_mem hr
  have hi' : i < 8192 := by simpa using hi
  simp [h ⟨i, hi'⟩]

/-- Books with nothing held: no class record, every usage 0. -/
theorem State.Books.of_empty {s : State} (hf : s.store.freeList = s.allUnits)
    (hc : ∀ u : UnitNo, s.store.unitClass[u.val] = none) (hu : ∀ c, (s.cls c).usage = 0) : s.Books [] :=
  ⟨by rw [hf]; rfl, fun u => by simp [hc u], fun c => by rw [hu, State.classCount_eq_zero hc]⟩

/-- The unit law says that the books stand against what slots and lanes hold (04 R66, R67, R79). -/
theorem State.unitLaw_iff (s : State) : s.unitLaw ↔ s.Books (s.slotUnits ++ s.laneUnits) := by
  unfold State.unitLaw
  split
  · next hm =>
    have hall : s.allUnits = [] := if_pos hm
    constructor
    · rintro ⟨hf, hs, hl, hc, hu⟩
      rw [hs, hl]
      exact State.Books.of_empty (hf.trans hall.symm) hc hu
    · intro h
      have hp := h.placed
      rw [hall, List.perm_nil, List.append_eq_nil_iff, List.append_eq_nil_iff] at hp
      obtain ⟨⟨hs, hl⟩, hf⟩ := hp
      have hc : ∀ u : UnitNo, s.store.unitClass[u.val] = none := fun u => by
        rw [h.records.record, hs, hl]
        simp
      exact ⟨hf, hs, hl, hc, fun c => by rw [h.records.usage, State.classCount_eq_zero hc]⟩
  · next hm =>
    have hall : s.allUnits = List.finRange 8192 := if_neg hm
    have hswap : (s.slotUnits ++ s.laneUnits ++ s.store.freeList).Perm
        (s.store.freeList ++ s.slotUnits ++ s.laneUnits) := by
      rw [List.append_assoc s.store.freeList]
      exact List.perm_append_comm
    have hfree : (s.slotUnits ++ s.laneUnits ++ s.store.freeList).Perm (List.finRange 8192) →
        ∀ u, u ∈ s.store.freeList ↔ u ∉ s.slotUnits ++ s.laneUnits := fun hp u => by
      have hmem := (hp.mem_iff (a := u)).mpr (List.mem_finRange u)
      have hdisj := List.disjoint_of_nodup_append (hp.nodup_iff.mpr (List.nodup_finRange 8192))
      rw [List.mem_append] at hmem
      exact ⟨fun hf hh => hdisj hh hf, fun hh => hmem.resolve_left hh⟩
    constructor
    · rintro ⟨hp, hc, hu⟩
      have hp' := hswap.trans hp
      exact ⟨by rw [hall]; exact hp', fun u => (hc u).trans (hfree hp' u), hu⟩
    · intro h
      have hp := h.placed
      rw [hall] at hp
      exact ⟨hswap.symm.trans hp, fun u => (h.records.record u).trans (hfree hp u).symm, h.records.usage⟩

/-! ### What slots and lanes hold -/

/-- One element of a vector written: what the others hold stays. -/
theorem flatMap_set_perm {α : Type} {n : Nat} (v : Vector α n) (i : Nat) (hi : i < n) (x : α) (f : α → List UnitNo) :
    ((v.set i x).toList.flatMap f ++ f v[i]).Perm (v.toList.flatMap f ++ f x) := by
  have hlen : i < v.toList.length := by simpa using hi
  have hsplit : v.toList = v.toList.take i ++ v[i] :: v.toList.drop (i + 1) := by
    have hdrop := List.drop_eq_getElem_cons hlen
    rw [Vector.getElem_toList] at hdrop
    rw [← hdrop, List.take_append_drop]
  rw [Vector.toList_set, List.set_eq_take_append_cons_drop, if_pos hlen]
  conv_rhs => rw [hsplit]
  rw [List.perm_iff_count]
  intro u
  simp only [List.flatMap_append, List.flatMap_cons, List.count_append]
  omega

/-- What every slot but `k` holds. -/
def State.otherSlotUnits (s : State) (k : SlotId) : List UnitNo := (s.setSlot k .free).slotUnits

theorem State.otherSlotUnits_setSlot (s : State) (k : SlotId) (v : Slot) :
    (s.setSlot k v).otherSlotUnits k = s.otherSlotUnits k := by
  simp [State.otherSlotUnits, State.setSlot]

theorem State.slotUnits_perm (s : State) (k : SlotId) :
    s.slotUnits.Perm ((s.slot k).units ++ s.otherSlotUnits k) := by
  have h := flatMap_set_perm s.slots k.val k.isLt .free Slot.units
  rw [Slot.units, List.append_nil] at h
  exact h.symm.trans List.perm_append_comm

theorem State.otherSlotUnits_congr {s v : State} {k : SlotId} (h : v.slots = s.slots) :
    v.otherSlotUnits k = s.otherSlotUnits k := by
  simp only [State.otherSlotUnits, State.slotUnits, State.setSlot, h]

theorem State.slotUnits_congr {s v : State} (h : v.slots = s.slots) : v.slotUnits = s.slotUnits := by
  simp only [State.slotUnits, h]

theorem State.laneUnits_congr {s v : State} (h : v.lanes = s.lanes) : v.laneUnits = s.laneUnits := by
  simp only [State.laneUnits, h]

/-- A lane written with other holdings. -/
theorem State.laneUnits_setLane (s : State) (n : LaneId) (l : Lane) :
    ((s.setLane n l).laneUnits ++ (s.lane n).units).Perm (s.laneUnits ++ l.units) :=
  flatMap_set_perm s.lanes n.val n.isLt l Lane.units

/-- What every lane holds, with the holdings of one lane split in two: what the lane keeps, and a chain it gives up. -/
theorem State.laneUnits_split {s : State} {n : LaneId} {l : Lane} {chain : List UnitNo}
    (h : (s.lane n).units.Perm (chain ++ l.units)) : s.laneUnits.Perm (chain ++ (s.setLane n l).laneUnits) := by
  have hset := s.laneUnits_setLane n l
  rw [List.perm_iff_count] at h hset ⊢
  intro u
  have h1 := h u
  have h2 := hset u
  simp only [List.count_append] at h1 h2 ⊢
  omega

/-! ### The lanes (06 6.1) -/

/-- A lane without a frame in flight has no current emission (06 6.1). -/
def Lane.quiet (l : Lane) : Prop := l.state.inFlight = false → l.emission = none

theorem Lane.quiet_of_shape {l : Lane} (h : l.shape) : l.quiet := by
  intro hs
  unfold Lane.shape at h
  cases hl : l.state <;> simp only [hl, LaneState.inFlight, reduceCtorEq] at h hs
  · exact h.1
  · exact h.2.1
  · exact h.2

/-- A lane operation that keeps what the lane holds, and keeps it quiet. -/
structure Lane.KeepsUnits (l l' : Lane) : Prop where
  units : l'.units.Perm l.units
  quiet : l'.quiet

/-- The head judgement moves units from the queue to the emission at most (06 R94, R95). -/
theorem Lane.judgeHead_keepsUnits {l : Lane} (b : Bool) (h : l.emission = none) : l.KeepsUnits (l.judgeHead b) := by
  refine ⟨?_, fun hs => ?_⟩
  · unfold Lane.judgeHead
    split
    · exact .refl _
    · next d rest hq =>
      split
      · simp only [Lane.units, Lane.startEmission, hq, h, List.flatMap_cons, Option.map_none, Option.map_some,
          Option.getD_none, Option.getD_some, List.append_nil]
        exact List.perm_append_comm
      · split <;> exact .refl _
  · exact Lane.quiet_of_shape (l.judgeHead_shape b h) hs

theorem Lane.quiet.keepsUnits {l : Lane} (h : l.quiet) : l.KeepsUnits l := ⟨.refl _, h⟩

theorem Lane.quiet.start {l : Lane} (h : l.quiet) : l.KeepsUnits l.start := by
  unfold Lane.start
  split
  · next hs => exact Lane.judgeHead_keepsUnits false (h (by rw [hs]; rfl))
  · exact h.keepsUnits
  · exact h.keepsUnits
  · exact h.keepsUnits
  · exact ⟨.refl _, nofun⟩

theorem Lane.quiet.stop {l : Lane} (h : l.quiet) : l.KeepsUnits l.stop := by
  unfold Lane.stop
  split
  · exact h.keepsUnits
  · next hs => exact ⟨.refl _, fun _ => h (by rw [hs]; rfl)⟩
  · next hs => exact ⟨.refl _, fun _ => h (by rw [hs]; rfl)⟩
  · exact ⟨.refl _, nofun⟩
  · exact h.keepsUnits

theorem Lane.quiet.addCredit {l : Lane} (h : l.quiet) (g : Nat) : l.KeepsUnits (l.addCredit g) := by
  unfold Lane.addCredit
  split
  · next hs =>
    obtain ⟨hu, hq⟩ := Lane.judgeHead_keepsUnits (l := { l with credit := min (l.credit + g) Config.creditLimit }) false
      (h (by rw [hs]; rfl))
    exact ⟨hu, hq⟩
  · exact ⟨.refl _, h⟩

/-- The end of an emission leaves the queue, of which the next head may be emitted (06 R97). -/
theorem Lane.endEmission_units (l : Lane) (frame : List Byte) :
    (l.endEmission frame).units.Perm (l.queue.flatMap Descriptor.units) ∧ (l.endEmission frame).quiet := by
  unfold Lane.endEmission
  split
  · exact ⟨by simp [Lane.units], fun _ => rfl⟩
  · obtain ⟨hu, hq⟩ := Lane.judgeHead_keepsUnits (l := { l with emission := none, lastFrame := .whole frame }) false rfl
    exact ⟨hu.trans (by simp [Lane.units]), hq⟩

/-- A descriptor appended brings its units (06 R93). -/
theorem Lane.quiet.append {l : Lane} (h : l.quiet) (d : Descriptor) :
    (l.append d).units.Perm (d.units ++ l.units) ∧ (l.append d).quiet := by
  have hunits : ({ l with queue := l.queue ++ [d] } : Lane).units.Perm (d.units ++ l.units) := by
    rw [List.perm_iff_count]
    intro u
    simp only [Lane.units, List.flatMap_append, List.flatMap_cons, List.flatMap_nil, List.append_nil, List.count_append]
    omega
  unfold Lane.append
  split
  · next hs =>
    obtain ⟨hu, hq⟩ := Lane.judgeHead_keepsUnits (l := { l with queue := l.queue ++ [d] }) false (h (by rw [hs]; rfl))
    exact ⟨hu.trans hunits, hq⟩
  · exact ⟨hunits, h⟩

/-- A FLUSH leaves the current emission (06 R104). -/
theorem Lane.quiet.flush {l : Lane} (h : l.quiet) :
    l.units.Perm (l.queue.flatMap Descriptor.units ++ l.flush.units) ∧ l.flush.quiet := by
  unfold Lane.flush
  split
  · next hs => exact ⟨.refl _, fun _ => h (by rw [hs]; rfl)⟩
  · exact ⟨.refl _, h⟩

end Sys2Proof.Machine
end

section
/-! SUPPORT. The Slot Table keeps every unit in one place: while a slot is judged the units it will hold are in hand, and each judgement ends by writing them into the slot, into a lane, or back onto the free list (04 R66, R67). -/

namespace Sys2Proof.Machine

/-! ### Between two judgements, and within one -/

/-- The books stand against what slots and lanes hold, and no lane without a frame in flight holds an emission. -/
structure State.Accounted (s : State) : Prop where
  books : s.Books (s.slotUnits ++ s.laneUnits)
  quiet : ∀ n, (s.lane n).quiet

/-- The same while slot `k` is judged: whatever its record says, the units in `hand` are its holdings. -/
structure State.AccountedAround (s : State) (k : SlotId) (hand : List UnitNo) : Prop where
  books : s.Books (hand ++ (s.otherSlotUnits k ++ s.laneUnits))
  quiet : ∀ n, (s.lane n).quiet

theorem State.quiet_congr {s v : State} (h : ∀ n, (s.lane n).quiet) (hv : v.lanes = s.lanes) (n : LaneId) :
    (v.lane n).quiet := by
  rw [State.lane_congr s v n hv]
  exact h n

theorem State.quiet_setLane {s : State} {n : LaneId} {l : Lane} (h : ∀ n, (s.lane n).quiet) (hl : l.quiet) (m : LaneId) :
    ((s.setLane n l).lane m).quiet := by
  rw [State.lane_setLane]
  split
  · exact hl
  · exact h m

theorem State.Accounted.congr {s v : State} (h : s.Accounted) (hb : s.SameBooks v) (hs : v.slots = s.slots)
    (hl : v.lanes = s.lanes) : v.Accounted := by
  refine ⟨?_, State.quiet_congr h.quiet hl⟩
  rw [State.slotUnits_congr hs, State.laneUnits_congr hl]
  exact h.books.congr hb

/-- A state that differs in none of slots, lanes, store and mode. -/
theorem State.Accounted.same {s v : State} (h : s.Accounted) (hst : v.store = s.store := by simp)
    (hm : v.mode = s.mode := by simp) (hs : v.slots = s.slots := by simp) (hl : v.lanes = s.lanes := by simp) :
    v.Accounted :=
  h.congr (.of_store hst hm) hs hl

section Around

variable {s v : State} {k : SlotId} {hand : List UnitNo}

theorem State.AccountedAround.same (h : s.AccountedAround k hand) (hst : v.store = s.store := by simp)
    (hm : v.mode = s.mode := by simp) (hs : v.slots = s.slots := by simp) (hl : v.lanes = s.lanes := by simp) :
    v.AccountedAround k hand := by
  refine ⟨?_, State.quiet_congr h.quiet hl⟩
  rw [State.otherSlotUnits_congr hs, State.laneUnits_congr hl]
  exact h.books.congr (.of_store hst hm)

theorem State.AccountedAround.perm {hand' : List UnitNo} (h : s.AccountedAround k hand) (hp : hand.Perm hand') :
    s.AccountedAround k hand' :=
  ⟨h.books.perm (hp.append_right _), h.quiet⟩

/-- The record of the slot itself does not count. -/
theorem State.AccountedAround.setSlot (h : s.AccountedAround k hand) (v : Slot) :
    (s.setSlot k v).AccountedAround k hand := by
  refine ⟨?_, h.quiet⟩
  rw [State.otherSlotUnits_setSlot]
  exact h.books.congr (.of_store rfl rfl)

/-- A slot's judgement begins with its holdings in hand. -/
theorem State.Accounted.around (h : s.Accounted) {units : List UnitNo} (hk : (s.slot k).units = units) :
    s.AccountedAround k units := by
  refine ⟨h.books.perm ?_, h.quiet⟩
  rw [← List.append_assoc, ← hk]
  exact (s.slotUnits_perm k).append_right _

/-- A slot's judgement ends with a record that holds what is in hand. -/
theorem State.AccountedAround.closes (h : s.AccountedAround k hand) {v : Slot} (hv : v.units.Perm hand) :
    (s.setSlot k v).Accounted := by
  have hslots := (s.setSlot k v).slotUnits_perm k
  rw [State.slot_setSlot_self, State.otherSlotUnits_setSlot] at hslots
  refine ⟨(h.books.congr (v := s.setSlot k v) (.of_store rfl rfl)).perm ?_, h.quiet⟩
  rw [← List.append_assoc]
  exact (((hv.append_right _).symm.trans hslots.symm).append_right _)

theorem State.AccountedAround.frees (h : s.AccountedAround k []) (t : ThreadId) : (s.freeSlot k t).Accounted :=
  (h.same (v := s.setBinding t none)).closes (.refl _)

/-- Units in hand go back (04 R71). -/
theorem State.AccountedAround.returns {chain : List UnitNo} (h : s.AccountedAround k (chain ++ hand)) :
    (s.returnChain chain).AccountedAround k hand := by
  refine ⟨State.Books.returnChain ?_, State.quiet_congr h.quiet (by simp)⟩
  rw [State.otherSlotUnits_congr (State.returnChain_slots s chain), State.laneUnits_congr (State.returnChain_lanes s chain),
    ← List.append_assoc]
  exact h.books

theorem State.AccountedAround.returnsAll (h : s.AccountedAround k hand) : (s.returnChain hand).AccountedAround k [] :=
  State.AccountedAround.returns (by rw [List.append_nil]; exact h)

/-- The unit of a claim comes to hand (04 R68). -/
theorem State.AccountedAround.claims {z : State} {c : ClassId} {p : List Byte} {u : UnitNo}
    (h : s.AccountedAround k hand) (hz : s.claim c p = .taken u z) : z.AccountedAround k (u :: hand) := by
  have hc := State.claim_claimedTo hz
  refine ⟨?_, State.quiet_congr h.quiet hc.lanes⟩
  rw [State.otherSlotUnits_congr hc.slots, State.laneUnits_congr hc.lanes]
  exact h.books.claim hc

/-- The units of a descriptor go from hand to its lane (02 R36, 06 R93). -/
theorem State.AccountedAround.offers {z : State} {d : Descriptor} (h : s.AccountedAround k (d.units ++ hand))
    (hz : s.offer d = some z) : z.AccountedAround k hand := by
  unfold State.offer at hz
  split at hz
  · cases hz
    obtain ⟨hunits, hquiet⟩ := (h.quiet d.lane).append d
    have hlanes := s.laneUnits_setLane d.lane ((s.lane d.lane).append d)
    refine ⟨(h.books.congr (v := s.setLane d.lane _) (.of_store rfl rfl)).perm ?_, State.quiet_setLane h.quiet hquiet⟩
    have hother : (s.setLane d.lane ((s.lane d.lane).append d)).otherSlotUnits k = s.otherSlotUnits k := rfl
    rw [hother]
    rw [List.perm_iff_count] at hunits hlanes ⊢
    intro u
    have h1 := hunits u
    have h2 := hlanes u
    simp only [List.count_append] at h1 h2 ⊢
    omega
  · cases hz

/-- A poison returns everything in hand (02 R42). -/
theorem State.AccountedAround.poison {held : List UnitNo} (h : s.AccountedAround k hand) (hp : hand.Perm held)
    (t : ThreadId) (stamp : PeriodNo) (g : Option Tag) (r : PoisonReason) :
    (s.poison k t stamp held g r).Accounted :=
  ((h.perm hp).returnsAll.same (v := (((s.returnChain held).raise r.notice (some t) g none none).bumpParcel
    r.counter))).closes (.refl _)

theorem State.AccountedAround.discardPlaced {placed : List UnitNo} (h : s.AccountedAround k (placed ++ hand))
    (kind : NoticeKind) (c : ParcelCounter) (t : ThreadId) (g : Option Tag) (n : Option LaneId) :
    (s.discardPlaced placed kind c t g n).AccountedAround k hand :=
  h.returns.same

theorem State.dropEntries_modeLanes (s : State) (es : List EarlyEntry) (c : DropCounter) :
    (s.dropEntries es c).mode = s.mode ∧ (s.dropEntries es c).lanes = s.lanes := by
  unfold State.dropEntries
  exact foldl_keeps (p := fun v : State => v.mode = s.mode ∧ v.lanes = s.lanes) (f := fun v _ => v.bumpDrop c)
    (fun _ _ h => h) es ⟨State.returnChain_mode _ _, State.returnChain_lanes _ _⟩

theorem State.orphanEntries_modeLanes (s : State) (t : ThreadId) (es : List EarlyEntry) :
    (s.orphanEntries t es).mode = s.mode ∧ (s.orphanEntries t es).lanes = s.lanes := by
  unfold State.orphanEntries
  exact foldl_keeps (p := fun v : State => v.mode = s.mode ∧ v.lanes = s.lanes) (fun v _ h => by simpa using h) es
    (by simp)

theorem State.AccountedAround.dropEntries {es : List EarlyEntry} (h : s.AccountedAround k (es.map EarlyEntry.unit))
    (c : DropCounter) : (s.dropEntries es c).AccountedAround k [] := by
  obtain ⟨hmode, hlanes⟩ := s.dropEntries_modeLanes es c
  exact h.returnsAll.same (by simp) (by simp [hmode]) (by simp) (by simp [hlanes])

theorem State.AccountedAround.orphanEntries {es : List EarlyEntry} (h : s.AccountedAround k (es.map EarlyEntry.unit))
    (t : ThreadId) : (s.orphanEntries t es).AccountedAround k [] := by
  obtain ⟨hmode, hlanes⟩ := s.orphanEntries_modeLanes t es
  exact h.returnsAll.same (by simp) (by simp [hmode]) (by simp) (by simp [hlanes])

/-! ### Placement and drain (01 1.7, 02 2.5) -/

/-- A placement's answer with every unit accounted for: over, or to go on with the parcel's units in hand. -/
def Placed.Accounted (k : SlotId) : Placed → Prop
  | .over z => z.Accounted
  | .more b z => z.AccountedAround k b.units

theorem State.AccountedAround.sealParcel {a : Assembly} (h : s.AccountedAround k (a.placed ++ hand)) (t : ThreadId)
    (e : EarlyEntry) : (s.sealParcel t a e).AccountedAround k hand := by
  unfold State.sealParcel
  dsimp only
  split
  · split
    · next hz => exact (State.AccountedAround.offers (d := s.descriptor t _ a e.fill) h hz).same
    · exact h.discardPlaced _ _ _ _ _
  · exact h.discardPlaced _ _ _ _ _

theorem State.AccountedAround.finishParcel {held : List EarlyEntry}
    (h : s.AccountedAround k (held.map EarlyEntry.unit)) (t : ThreadId) (stamp : PeriodNo) (x : Seq) :
    (s.finishParcel k t stamp x held).Accounted k := by
  have h1 := h.same (v := s.signalParcelEnd t)
  have hrests : ∀ {z : State}, z.AccountedAround k [] → ((z.setSlot k (.resting t stamp x)).reportSlot).Accounted :=
    fun hz => (hz.closes (v := .resting t stamp x) (.refl _)).same
  have hfrees : ∀ {z : State}, z.AccountedAround k [] → ((z.freeSlot k t).reportSlot).Accounted :=
    fun hz => (hz.frees t).same
  unfold State.finishParcel
  cases hp : (s.thread t).pending with
  | some c =>
    simp only [Option.isSome_some, if_true]
    have h2 := h1.dropEntries .displaced
    split
    · exact hrests h2
    · rw [State.orphanEntries_nil]
      exact hfrees h2
  | none =>
    simp only [Option.isSome_none, Bool.false_eq_true, if_false]
    split
    · split
      · next hnil => exact hrests (h1.perm (by rw [hnil]; rfl))
      · split
        · exact hrests (h1.dropEntries .notRunning)
        · unfold State.nextParcel
          split
          · exact h1
          · exact h1.poison (.refl _) _ _ _ _
    · exact hfrees (h1.orphanEntries t)

theorem State.AccountedAround.placePassed {a : Assembly} {e : EarlyEntry} (h : s.AccountedAround k (a.units ++ [e.unit]))
    (t : ThreadId) (stamp : PeriodNo) : (s.placePassed k t stamp a e).Accounted k := by
  have hb : s.AccountedAround k ((a.placed ++ [e.unit]) ++ a.early.map EarlyEntry.unit) := by
    refine h.perm ?_
    rw [Assembly.units, List.append_assoc, List.append_assoc]
    exact List.perm_append_comm.append_left _
  unfold State.placePassed
  dsimp only
  split
  · exact (State.AccountedAround.sealParcel (a := s.appendShard a e) hb t e).finishParcel t stamp _
  · exact hb

theorem State.AccountedAround.restartParcel {a : Assembly} {e : EarlyEntry}
    (h : s.AccountedAround k (a.units ++ [e.unit])) (t : ThreadId) (p : Nat) :
    (s.restartParcel t a e p).2.AccountedAround k ((s.restartParcel t a e p).1.units ++ [e.unit]) := by
  rw [Assembly.units, List.append_assoc] at h
  exact h.returns.same (by simp) (by simp [State.restartParcel]) (by simp) (by simp [State.restartParcel])

theorem State.AccountedAround.placeShard {a : Assembly} {e : EarlyEntry} (h : s.AccountedAround k (a.units ++ [e.unit]))
    (t : ThreadId) (stamp : PeriodNo) : (s.placeShard k t stamp a e).Accounted k := by
  have htagged : ∀ {z : State} {b : Assembly}, z.AccountedAround k (b.units ++ [e.unit]) →
      (z.placePassed k t stamp { b with parcelTag := some e.tag } e).Accounted k := fun {_ b} hz =>
    State.AccountedAround.placePassed (a := { b with parcelTag := some e.tag }) hz t stamp
  unfold State.placeShard
  split
  · split
    · exact htagged h
    · exact h.poison (.refl _) _ _ _ _
  · split
    · exact htagged (h.restartParcel t _)
    · split
      · exact h.placePassed t stamp
      · exact h.poison (.refl _) _ _ _ _

theorem State.AccountedAround.drainEarly (t : ThreadId) (stamp : PeriodNo) (n : Nat) {a : Assembly}
    (h : s.AccountedAround k a.units) : (State.drainEarly k t stamp n a s).Accounted := by
  induction n generalizing a s with
  | zero => exact h.closes (.refl _)
  | succ n ih =>
    unfold State.drainEarly
    split
    · exact h.closes (.refl _)
    · next e rest hea =>
      split
      · have hdue : s.AccountedAround k (({ a with early := rest } : Assembly).units ++ [e.unit]) := by
          refine h.perm ?_
          simp only [Assembly.units, hea, List.map_cons]
          rw [List.append_assoc]
          exact (List.perm_append_comm (l₁ := [e.unit])).append_left _
        have hp := hdue.placeShard t stamp
        split
        · next z hz => rw [hz] at hp; exact hp
        · next b z hz => rw [hz] at hp; exact ih hp
      · exact h.closes (.refl _)

theorem State.AccountedAround.placeAndDrain {a : Assembly} {e : EarlyEntry}
    (h : s.AccountedAround k (a.units ++ [e.unit])) (t : ThreadId) (stamp : PeriodNo) :
    (s.placeAndDrain k t stamp a e).Accounted := by
  have hp := h.placeShard t stamp
  unfold State.placeAndDrain
  split
  · next z hz => rw [hz] at hp; exact hp
  · next b z hz => rw [hz] at hp; exact State.AccountedAround.drainEarly t stamp _ hp

/-! ### The judgements of the slot states -/

theorem State.AccountedAround.startParcel (h : s.AccountedAround k []) (sh : DataShard) :
    (s.startParcel k sh).Accounted := by
  unfold State.startParcel
  dsimp only
  split
  · exact h.poison (.refl _) _ _ _ _
  · next u z hz =>
    split
    · exact (h.claims hz).poison (.refl _) _ _ _ _
    · exact State.AccountedAround.placeAndDrain (a := Assembly.begin_ sh.seq) (e := sh.entry u) (h.claims hz) _ _

theorem map_unit_insertEarly_perm (x : Seq) (e : EarlyEntry) (es : List EarlyEntry) :
    ((insertEarly x e es).map EarlyEntry.unit).Perm (e.unit :: es.map EarlyEntry.unit) := by
  induction es with
  | nil => exact .refl _
  | cons f es ih =>
    unfold insertEarly
    split
    · exact .refl _
    · exact (ih.cons f.unit).trans (.swap _ _ _)

/-- A shard held early joins the parcel's units (01 R18). -/
theorem State.AccountedAround.holds {a : Assembly} {e : EarlyEntry} (h : s.AccountedAround k (e.unit :: a.units))
    (t : ThreadId) (stamp : PeriodNo) (last : Option Nat) :
    (s.setSlot k (.assembling t stamp (a.hold e last))).Accounted := by
  refine h.closes ?_
  exact ((map_unit_insertEarly_perm _ _ _).append_left _).trans List.perm_middle

theorem State.judgeResting_accounted (hs : s.Accounted) (h : s.AccountedAround k []) (x : Seq) (sh : DataShard) :
    (s.judgeResting k x sh).Accounted := by
  have hpoison := h.poison (.refl _) sh.thread s.aging.periodNo (some sh.tag)
  unfold State.judgeResting
  dsimp only
  split
  · split
    · exact h.startParcel sh
    · exact hpoison _
  split
  · exact hs.same
  split
  · exact hpoison _
  split
  · exact hpoison _
  split
  · exact hpoison _
  split
  · exact hpoison _
  · next u z hz =>
    exact State.AccountedAround.holds (a := Assembly.begin_ x) (e := sh.entry u) (h.claims hz) _ _ _

theorem State.judgeAssembling_accounted {a : Assembly} (hs : s.Accounted) (h : s.AccountedAround k a.units)
    (sh : DataShard) : (s.judgeAssembling k a sh).Accounted := by
  have hpoison := h.poison (.refl _) sh.thread s.aging.periodNo (skipTagOf a.parcelTag sh.tag)
  unfold State.judgeAssembling
  dsimp only
  split
  · exact hs.same
  split
  · exact hpoison _
  split
  · exact hs.same
  split
  · split
    · split
      · exact hpoison _
      · next u z hz => exact State.AccountedAround.holds (e := sh.entry u) (h.claims hz) _ _ _
    · exact hs.same
  split
  · exact hpoison _
  split
  · exact hpoison _
  split
  · exact hpoison _
  · next u z hz =>
    split
    · exact State.AccountedAround.placeAndDrain (e := sh.entry u)
        ((h.claims hz).perm (List.perm_append_comm (l₁ := [u]))) _ _
    · exact State.AccountedAround.holds (e := sh.entry u) (h.claims hz) _ _ _

theorem State.AccountedAround.endSkip (h : s.AccountedAround k []) (t : ThreadId) (x : Seq) :
    (s.endSkip k t x).Accounted := by
  have h1 := h.same (v := s.signalParcelEnd t)
  unfold State.endSkip
  dsimp only
  split
  · exact (h1.closes (v := .resting t s.aging.periodNo x) (.refl _)).same
  · exact (h1.frees t).same

theorem State.judgeSkipping_accounted (hs : s.Accounted) (h : s.AccountedAround k []) (g : Option Tag)
    (sh : DataShard) : (s.judgeSkipping k g sh).Accounted := by
  have hskipped := h.same (v := s.bumpDrop .skipped)
  unfold State.judgeSkipping
  split
  · split
    · exact hskipped.endSkip _ _
    · exact hs.same
  split
  · have h1 := h.same (v := s.signalParcelEnd sh.thread)
    unfold State.endSkipOnF
    dsimp only
    split
    · exact h1.startParcel sh
    · exact (h1.frees sh.thread).same
  split
  · exact hskipped.endSkip _ _
  · exact hs.same

theorem State.takeUnbound_accounted (h : s.Accounted) (sh : DataShard) : (s.takeUnbound sh).Accounted := by
  unfold State.takeUnbound
  split
  · split
    · next j hj =>
      have hfree := h.around (k := j) (units := []) (by rw [State.lowestFree_free hj]; rfl)
      exact (hfree.same (v := s.setBinding sh.thread (some j))).startParcel sh
    · split
      · next j hj =>
        obtain ⟨t, p, x, hrests⟩ := State.oldestResting_resting hj
        have hresting := h.around (k := j) (units := []) (by rw [hrests]; rfl)
        rw [State.evict_resting hrests]
        exact (hresting.same (v := ((s.setBinding t none).bumpDrop .evictions).setBinding sh.thread
          (some j))).startParcel sh
      · exact h.same
  · exact h.same

theorem Slot.units_restamp (now : PeriodNo) (v : Slot) : (v.restamp now).units = v.units := by
  cases v <;> rfl

/-- The Slot Table keeps every unit in one place (01 R8, 04 R66). -/
theorem State.takeShard_accounted (h : s.Accounted) (sh : DataShard) : (s.takeShard sh).Accounted := by
  unfold State.takeShard
  split
  · exact State.takeUnbound_accounted h sh
  · next j _ =>
    have hin := (h.around (k := j) rfl).setSlot ((s.slot j).restamp s.aging.periodNo)
    have hs := (h.around (k := j) rfl).closes (v := (s.slot j).restamp s.aging.periodNo)
      (.of_eq (Slot.units_restamp _ _))
    dsimp only
    split
    · exact State.takeUnbound_accounted h sh
    · next hj => exact State.judgeResting_accounted hs (hin.perm (by rw [hj]; rfl)) _ sh
    · next hj => exact State.judgeAssembling_accounted hs (hin.perm (by rw [hj]; rfl)) sh
    · next hj => exact State.judgeSkipping_accounted hs (hin.perm (by rw [hj]; rfl)) _ sh

end Around

end Sys2Proof.Machine
end

section
/-! SUPPORT. Every command keeps every unit in one place: releases, lanes, restarts, requests and events (04 R66, R67, R79, R80, 06, 08, 09). -/

namespace Sys2Proof.Machine

variable {s v : State}

/-! ### Operations that leave every unit where it is -/

@[simp] theorem State.answer_store (s : State) (r : Request) (st : Status) (c : ReplyResult) :
    (s.answer r st c).store = s.store := rfl
@[simp] theorem State.answer_mode (s : State) (r : Request) (st : Status) (c : ReplyResult) :
    (s.answer r st c).mode = s.mode := rfl
@[simp] theorem State.answer_slots (s : State) (r : Request) (st : Status) (c : ReplyResult) :
    (s.answer r st c).slots = s.slots := rfl
@[simp] theorem State.answer_lanes (s : State) (r : Request) (st : Status) (c : ReplyResult) :
    (s.answer r st c).lanes = s.lanes := rfl

theorem State.Accounted.answer (h : s.Accounted) (r : Request) (st : Status) (c : ReplyResult) :
    (s.answer r st c).Accounted := h.same

theorem State.Accounted.decline (h : s.Accounted) (r : Request) (st : Status) : (s.decline r st).Accounted :=
  h.answer r st .empty

/-- The judgements of R73 leave the usages (04 R73). -/
theorem State.Accounted.settleReturns (h : s.Accounted) : s.settleReturns.Accounted := by
  refine h.congr ⟨by simp, by simp, fun c => ?_, State.allUnits_of_mode (by simp)⟩ (by simp) (by simp)
  rw [State.cls_settleReturns]
  exact (ClassAccount.settled_sameLevels _ _).usage

/-- A change of mode that neither enters nor leaves STARTING. -/
theorem State.Accounted.remode (h : s.Accounted) (hst : v.store = s.store) (hm : s.mode ≠ .starting)
    (hv : v.mode ≠ .starting) (hs : v.slots = s.slots := by rfl) (hl : v.lanes = s.lanes := by rfl) : v.Accounted := by
  have hall : v.allUnits = s.allUnits := by rw [State.allUnits, State.allUnits, if_neg hm, if_neg hv]
  exact h.congr ⟨by rw [hst], by rw [hst], fun c => by rw [State.cls_congr s v c hst], hall⟩ hs hl

/-! ### Cleared places -/

theorem State.slotUnits_eq_nil (h : ∀ k, s.slot k = .free) : s.slotUnits = [] := by
  unfold State.slotUnits
  rw [List.flatMap_eq_nil_iff]
  intro sl hsl
  obtain ⟨i, hi, rfl⟩ := List.getElem_of_mem hsl
  have hi' : i < 96 := by simpa using hi
  have hfree : s.slots[i] = .free := h ⟨i, hi'⟩
  rw [Vector.getElem_toList, hfree]
  rfl

theorem State.laneUnits_eq_nil (h : ∀ n, (s.lane n).queue = [] ∧ (s.lane n).emission = none) : s.laneUnits = [] := by
  unfold State.laneUnits
  rw [List.flatMap_eq_nil_iff]
  intro l hl
  obtain ⟨i, hi, rfl⟩ := List.getElem_of_mem hl
  have hi' : i < 4 := by simpa using hi
  obtain ⟨hq, he⟩ : s.lanes[i].queue = [] ∧ s.lanes[i].emission = none := h ⟨i, hi'⟩
  rw [Vector.getElem_toList, Lane.units, hq, he]
  rfl

/-- With every slot FREE, every lane empty and no class record, the free list is all there is. -/
theorem State.Accounted.of_cleared (hs : ∀ k, s.slot k = .free)
    (hl : ∀ n, (s.lane n).queue = [] ∧ (s.lane n).emission = none) (hf : s.store.freeList = s.allUnits)
    (hc : ∀ u : UnitNo, s.store.unitClass[u.val] = none) (hu : ∀ c, (s.cls c).usage = 0) : s.Accounted := by
  refine ⟨?_, fun n _ => (hl n).2⟩
  rw [State.slotUnits_eq_nil hs, State.laneUnits_eq_nil hl]
  exact State.Books.of_empty hf hc hu

/-! ### Slots -/

/-- A slot released: its units go back (01 R24). -/
theorem State.Accounted.releaseSlot (h : s.Accounted) (k : SlotId) : (s.releaseSlot k).Accounted := by
  unfold State.releaseSlot
  split
  · exact h
  · next hk => exact (h.around (units := []) (by rw [hk]; rfl)).frees _
  · next t p g r hk =>
    have h1 := (h.around (units := []) (by rw [hk]; rfl)).same (v := s.signalParcelEnd t)
    exact (h1.frees t).same
  · next t p a hk =>
    have h1 := (h.around (units := a.units) (by rw [hk]; rfl)).returnsAll
    exact ((h1.same (v := (s.returnChain a.units).signalParcelEnd t)).frees t).same

theorem State.cutSkipThread_accounted {p : State × Nat} (t : ThreadId) (h : p.1.Accounted) :
    (State.cutSkipThread p t).1.Accounted := by
  unfold State.cutSkipThread
  split
  · exact h
  · split
    · exact h
    · exact h
    · exact h
    · next hk => exact (h.around (by rw [hk]; rfl)).poison (.refl _) _ _ _ _

theorem State.cutReleaseThread_accounted {p : State × Nat × Nat} (t : ThreadId) (h : p.1.Accounted) :
    (State.cutReleaseThread p t).1.Accounted := by
  unfold State.cutReleaseThread
  split
  · exact h
  · next k _ =>
    have hr := h.releaseSlot k
    dsimp only
    split
    · exact hr.same
    · exact hr

theorem State.Accounted.doCut (h : s.Accounted) (r : Request) : (s.doCut r).Accounted := by
  unfold State.doCut
  split
  · next ts _ _ =>
    exact (State.Accounted.settleReturns (foldl_keeps (p := fun p : State × Nat => p.1.Accounted)
      (fun _ t => State.cutSkipThread_accounted t) ts h)).answer _ _ _
  · next ts _ _ =>
    exact (State.Accounted.settleReturns (foldl_keeps (p := fun p : State × Nat × Nat => p.1.Accounted)
      (fun _ t => State.cutReleaseThread_accounted t) ts h)).answer _ _ _
  · exact h.decline _ _

theorem State.Accounted.writeThread (h : s.Accounted) (r : Request) (t : ThreadId) (c : ThreadConfig) :
    (s.writeThread r t c).Accounted := by
  have hactive : (s.writeActive t c).Accounted := h.same rfl rfl rfl rfl
  have hstored : (s.storePending r t c).Accounted := h.same rfl rfl rfl rfl
  unfold State.writeThread
  split
  · exact hactive.decline _ _
  · next k _ =>
    split
    · exact hactive.decline _ _
    · next hk =>
      split
      · exact hactive.decline _ _
      · have hrests : ((s.writeActive t c).slot k).units = [] := by
          have hslot : (s.writeActive t c).slot k = s.slot k := rfl
          rw [hslot, hk]
          rfl
        exact ((hactive.around hrests).frees t).decline _ _
    · exact hstored
    · exact hstored

/-! ### Lanes -/

theorem State.Accounted.setLane (h : s.Accounted) {n : LaneId} {l : Lane} (hl : (s.lane n).KeepsUnits l) :
    (s.setLane n l).Accounted := by
  refine ⟨?_, State.quiet_setLane h.quiet hl.quiet⟩
  have hunits := State.laneUnits_split (s := s) (n := n) (chain := []) hl.units.symm
  exact (h.books.congr (v := s.setLane n l) (.of_store rfl rfl)).perm (hunits.append_left _)

/-- A lane gives up a chain: it is in hand until it is returned. -/
theorem State.Accounted.givesUp (h : s.Accounted) {n : LaneId} {l : Lane} {chain : List UnitNo}
    (hl : (s.lane n).units.Perm (chain ++ l.units)) : s.Books (chain ++ (s.slotUnits ++ (s.setLane n l).laneUnits)) := by
  refine h.books.perm (((State.laneUnits_split hl).append_left s.slotUnits).trans ?_)
  rw [← List.append_assoc, ← List.append_assoc]
  exact List.perm_append_comm.append_right _

/-- Books that stand against what a state's slots and lanes hold. -/
theorem State.Books.accounted {held : List UnitNo} (h : s.Books held) (hheld : held = s.slotUnits ++ s.laneUnits)
    (hq : ∀ n, (s.lane n).quiet) : s.Accounted :=
  ⟨hheld ▸ h, hq⟩

/-- The end of an emission returns the emitted parcel's units (06 R97). -/
theorem State.Accounted.endEmission (h : s.Accounted) {n : LaneId} {d : Descriptor}
    (hd : (s.lane n).emission = some d) : (s.endEmission n d).Accounted := by
  obtain ⟨hunits, hquiet⟩ := (s.lane n).endEmission_units (s.frameOctets d)
  have hsplit : (s.lane n).units.Perm (d.units ++ ((s.lane n).endEmission (s.frameOctets d)).units) := by
    simp only [Lane.units, hd, Option.map_some, Option.getD_some]
    exact List.perm_append_comm.trans (hunits.symm.append_left _)
  have hbooks := (h.givesUp hsplit).returnChain
  have hended : (s.endEmission n d) = ((((s.returnChain d.units).bumpLane n .emitted 1).setLane n
      ((s.lane n).endEmission (s.frameOctets d)))).settleReturns := by
    simp [State.endEmission]
  rw [hended]
  refine State.Accounted.settleReturns (State.Books.accounted (hbooks.congr (.of_store rfl rfl)) ?_
    (State.quiet_setLane (State.quiet_congr h.quiet (by simp)) hquiet))
  simp [State.slotUnits, State.laneUnits, State.setLane]

/-- The stall discard of a WAITING lane's head (06 R100). -/
theorem State.Accounted.stallDiscard (h : s.Accounted) {n : LaneId} {d : Descriptor} {rest : List Descriptor}
    (hq : (s.lane n).queue = d :: rest) (he : (s.lane n).emission = none) : (s.stallDiscard n d rest).Accounted := by
  have hsplit : (s.lane n).units.Perm (d.units ++ ({ s.lane n with queue := rest } : Lane).units) := by
    simp [Lane.units, hq]
  have hbooks := ((h.givesUp hsplit).congr (v := s.setLane n { s.lane n with queue := rest })
    (.of_store rfl rfl)).returnChain
  have hquiet := State.quiet_setLane (n := n) (l := { s.lane n with queue := rest }) h.quiet fun _ => he
  have hreturned : ((s.setLane n { s.lane n with queue := rest }).returnChain d.units).Accounted := by
    refine State.Books.accounted hbooks ?_ (State.quiet_congr hquiet (by simp))
    simp [State.slotUnits, State.laneUnits]
  unfold State.stallDiscard
  dsimp only
  exact State.Accounted.settleReturns (hreturned.same.setLane (Lane.judgeHead_keepsUnits true (by simpa using he)))

/-- LANE FLUSH returns the units of every descriptor queued (06 R104). -/
theorem State.Accounted.flushLane (h : s.Accounted) (n : LaneId) : (s.flushLane n).Accounted := by
  obtain ⟨hunits, hquiet⟩ := (h.quiet n).flush
  have hbooks := State.Books.returnChains _
    ((h.givesUp hunits).congr (v := s.setLane n (s.lane n).flush) (.of_store rfl rfl))
  obtain ⟨hslots, -, hlanes, -⟩ := State.foldl_returnChain_frame (s.lane n).queue (s.setLane n (s.lane n).flush)
  have hreturned := State.Books.accounted hbooks (by rw [State.slotUnits_congr hslots, State.laneUnits_congr hlanes]; rfl)
    (State.quiet_congr (State.quiet_setLane h.quiet hquiet) hlanes)
  unfold State.flushLane
  dsimp only
  refine State.Accounted.settleReturns ?_
  split
  · exact hreturned
  · exact hreturned.same

theorem State.Accounted.doLane (h : s.Accounted) (r : Request) : (s.doLane r).Accounted := by
  unfold State.doLane
  split
  · next n _ _ => exact (h.setLane (h.quiet n).start).answer _ _ _
  · next n _ _ => exact (h.setLane (h.quiet n).stop).answer _ _ _
  · next n _ _ => exact (h.flushLane n).answer _ _ _
  · exact h.decline _ _

theorem State.Accounted.takeGrant (h : s.Accounted) (n : LaneId) (g : Nat) : (s.takeGrant n g).Accounted := by
  unfold State.takeGrant
  dsimp only
  split
  · exact (h.same (v := s.bumpLane n .grantOverflow 1)).setLane ((h.quiet n).addCredit g)
  · exact h.setLane ((h.quiet n).addCredit g)

/-! ### Settings -/

/-- A class account written with the usage it has. -/
theorem State.Accounted.setCls (h : s.Accounted) {c : ClassId} {a : ClassAccount} (ha : a.usage = (s.cls c).usage) :
    (s.setCls c a).Accounted := by
  refine h.congr ⟨rfl, rfl, fun d => ?_, rfl⟩ rfl rfl
  rw [State.cls_setCls]
  split
  · next hd => rw [hd, ha]
  · rfl

theorem State.Accounted.rejudge (h : s.Accounted) (c : ClassId) : (s.rejudge c).Accounted := by
  refine h.congr ⟨by simp, by simp, fun d => ?_, State.allUnits_of_mode (by simp)⟩ (by simp) (by simp)
  rw [State.cls_rejudge]
  split
  · next hd => rw [hd, (ClassAccount.rejudged_sameLevels _ _).usage]
  · rfl

theorem State.Accounted.doWriteSetting (h : s.Accounted) (r : Request) : (s.doWriteSetting r).Accounted := by
  have hdeclined : ∀ st, (s.decline r st).Accounted := h.decline r
  have hquota : ∀ c v, (s.doWriteQuota r c v).Accounted := fun c v => by
    unfold State.doWriteQuota
    split
    · exact (h.setCls (a := { s.cls c with quota := v.toNat }) rfl).answer _ _ _
    · exact hdeclined _
  have hwarn : ∀ c v, (s.doWriteWarn r c v).Accounted := fun c v => by
    unfold State.doWriteWarn
    split
    · exact ((h.setCls (a := { s.cls c with warn := v.toNat }) rfl).rejudge c).answer _ _ _
    · exact hdeclined _
  have hstall : ∀ n v, (s.doWriteStall r n v).Accounted := fun n v =>
    (h.setLane (l := { s.lane n with stallLimit := v.toNat }) ⟨.refl _, h.quiet n⟩).answer _ _ _
  unfold State.doWriteSetting
  dsimp only
  split
  · exact hdeclined _
  · exact hdeclined _
  · unfold State.doWriteController; split <;> exact h.same rfl rfl rfl rfl
  · unfold State.doWritePeriod; split <;> exact h.same rfl rfl rfl rfl
  · unfold State.doWriteDrainLimit; split <;> exact h.same rfl rfl rfl rfl
  · exact hquota _ _
  · exact hquota _ _
  · exact hquota _ _
  · exact hquota _ _
  · exact hwarn _ _
  · exact hwarn _ _
  · exact hwarn _ _
  · exact hwarn _ _
  · unfold State.doWriteHysteresis
    split
    · have hwritten : ({ s with store := { s.store with hysteresis := (r.field 4).toNat } } : State).Accounted :=
        h.congr ⟨rfl, rfl, fun _ => rfl, rfl⟩ rfl rfl
      exact (foldl_keeps (p := State.Accounted) (fun _ c hv => hv.rejudge c) classIds hwritten).answer _ _ _
    · exact hdeclined _
  · unfold State.doWriteNoticeMask; split <;> exact h.same rfl rfl rfl rfl
  · exact hstall _ _
  · exact hstall _ _
  · exact hstall _ _
  · exact hstall _ _
  · exact hdeclined _
  · exact hdeclined _

/-! ### Modes and restarts -/

theorem State.Accounted.judgeClose (h : s.Accounted) : s.judgeClose.Accounted := by
  unfold State.judgeClose
  split
  · next hm => exact h.remode rfl (by rw [hm.1]; decide) nofun
  · exact h

theorem State.Accounted.beginDrain (h : s.Accounted) (r : Request) : (s.beginDrain r).Accounted := by
  unfold State.beginDrain
  split
  · exact h.answer _ _ _
  · exact h.same

theorem State.Accounted.doDrain (h : s.Accounted) (r : Request) : (s.doDrain r).Accounted := by
  unfold State.doDrain
  split
  · exact h.decline _ _
  · exact h.decline _ _
  · next hm =>
    have hclosing : ({ s with mode := .closing } : State).Accounted := h.remode rfl (by rw [hm]; decide) nofun
    exact hclosing.judgeClose.beginDrain r
  · exact h.judgeClose.beginDrain r
  · exact h.beginDrain r

/-- The steps of either restart leave every slot FREE, every lane empty and every unit free (09 R146, 04 R80). -/
theorem State.RestartedTo.endTraffic_accounted {aging : Aging} {threads : Vector ThreadEntry 1024} {z : State}
    (h : s.RestartedTo aging threads z) : z.endTraffic.Accounted :=
  State.Accounted.of_cleared (z.slot_replicate h.slots) (fun n => ⟨(h.lanes n).queue, (h.lanes n).emission⟩)
    (by rw [State.allUnits, if_neg nofun]; exact h.freeList) h.unitClass fun c => congrArg ClassAccount.usage (h.cls c)

theorem State.RestartedTo.endFull_accounted {aging : Aging} {threads : Vector ThreadEntry 1024} {z : State}
    (h : s.RestartedTo aging threads z) : z.endFull.Accounted := by
  refine State.Accounted.of_cleared (z.slot_replicate h.slots) (fun n => ?_) ?_ h.unitClass fun c => ?_
  · rw [State.lane_endFull]
    exact ⟨(h.lanes n).queue, (h.lanes n).emission⟩
  · rw [State.allUnits, if_neg nofun]
    exact h.freeList
  · rw [State.cls_endFull, h.cls]

theorem State.restartTraffic_accounted (s : State) : s.restartTraffic.Accounted := by
  rw [State.restartTraffic_eq]
  exact (s.rebuildStore_restartedTo _ _).endTraffic_accounted

theorem State.restartFull_accounted (s : State) : s.restartFull.Accounted := by
  rw [State.restartFull_eq]
  exact (s.held.rebuildStore_restartedTo _ _).endFull_accounted

/-! ### The engine -/

theorem State.Accounted.doReadCounters (h : s.Accounted) (r : Request) : (s.doReadCounters r).Accounted := by
  unfold State.doReadCounters
  dsimp only
  split
  · split <;> exact h.same rfl rfl rfl rfl
  · split <;> exact h.same rfl rfl rfl rfl
  · split
    · exact h.decline _ _
    · split <;> exact h.same rfl rfl rfl rfl
  · split <;> exact h.same rfl rfl rfl rfl
  · exact h.decline _ _

/-- Every request that the engine carries out keeps every unit in one place; none is taken in STARTING (08 R120). -/
theorem State.Accounted.carryOut (h : s.Accounted) (hm : s.mode ≠ .starting) (r : Request) :
    (s.carryOut r).Accounted := by
  unfold State.carryOut
  split
  · exact h.decline _ _
  · unfold State.doReadSetting; split <;> exact h.answer _ _ _
  · exact h.doWriteSetting r
  · unfold State.doReadThread; split <;> exact h.answer _ _ _
  · unfold State.doWriteThread
    split
    · exact h.writeThread r _ _
    · exact h.decline _ _
  · unfold State.doReadSlot; split <;> exact h.answer _ _ _
  · exact h.doCut r
  · exact h.doLane r
  · exact h.remode (v := State.doOpen s r) rfl hm nofun
  · exact h.doDrain r
  · exact h.doReadCounters r
  · unfold State.doRestart
    split
    · exact s.restartTraffic_accounted.decline _ _
    · exact s.restartFull_accounted.decline _ _
    · exact h.decline _ _

theorem State.Accounted.serve (h : s.Accounted) : s.serve.Accounted := by
  unfold State.serve
  generalize s.engine.queue.length = n
  induction n generalizing s with
  | zero => exact h
  | succ n ih =>
    unfold State.takeRequests
    split
    · next ht =>
      have hm : s.mode ≠ .starting := by
        simp only [State.canTake, Bool.and_eq_true, decide_eq_true_eq] at ht
        exact ht.1.1.1
      refine ih ?_
      unfold State.takeHead
      split
      · exact h
      · next r rest _ =>
        exact (h.same (v := { s with engine := { s.engine with queue := rest, reserved := true } })).carryOut hm r
    · exact h

theorem State.Accounted.arrive (h : s.Accounted) (r : Request) : (s.arrive r).Accounted := by
  unfold State.arrive
  split
  · exact State.Accounted.serve (h.same rfl rfl rfl rfl)
  · split
    · dsimp only
      split
      · exact State.Accounted.serve (h.same rfl rfl rfl rfl)
      · exact h.same
    · exact h.same

theorem State.Accounted.requestArrives (h : s.Accounted) (r : Request) : (s.requestArrives r).Accounted := by
  unfold State.requestArrives
  split
  · exact h
  · exact h.arrive r

theorem State.Accounted.endDrain (h : s.Accounted) (r : Request) (st : Status) : (s.endDrain r st).Accounted :=
  State.Accounted.serve (h.same rfl rfl rfl rfl)

theorem State.Accounted.drainReport (h : s.Accounted) : s.drainReport.Accounted := by
  unfold State.drainReport
  split
  · exact h
  · split
    · exact h.endDrain _ _
    · exact h

theorem State.Accounted.laneReport (h : s.Accounted) (n : LaneId) : (s.laneReport n).Accounted := by
  unfold State.laneReport
  split
  · exact h.drainReport
  · exact h

/-! ### Events -/

theorem State.resetAll_accounted (s : State) : s.resetAll.Accounted :=
  State.Accounted.of_cleared State.slot_reset
    (fun n => by
      have hlane : s.resetAll.lane n = Lane.default := State.lane_reset n
      rw [hlane]
      exact ⟨rfl, rfl⟩)
    rfl State.unitClass_reset fun c => by rw [State.cls_resetAll]; rfl

/-- The build of start-up frees every unit: in STARTING no place held one (04 R79, 09 R141). -/
theorem State.Accounted.endStartUp (h : s.Accounted) (hm : s.mode = .starting) : s.endStartUp.Accounted := by
  obtain ⟨hb, hq⟩ := h
  obtain ⟨-, hs, hl, hc, hu⟩ : s.storeEmpty := by
    have hlaw := s.unitLaw_iff.mpr hb
    rwa [State.unitLaw, if_pos hm] at hlaw
  have hbuilt : ({ s with
      building := false
      mode := .init
      store := { s.store with freeList := builtFreeList } } : State).Accounted := by
    refine State.Books.accounted (held := []) (State.Books.of_empty ?_ hc hu) ?_ hq
    · rw [State.allUnits, if_neg nofun]
      exact builtFreeList_eq_finRange
    · exact (List.append_eq_nil_iff.mpr ⟨hs, hl⟩).symm
  refine hbuilt.same (v := s.endStartUp) ?_ ?_ ?_ ?_ <;> simp [State.endStartUp]

theorem State.Accounted.takeOctets (h : s.Accounted) (octets : List Byte) : (s.takeOctets octets).Accounted := by
  unfold State.takeOctets
  split
  · exact h
  · split
    · exact h.same
    · exact h.arrive _
    · exact (State.takeShard_accounted h _).settleReturns

theorem State.Accounted.takeReport (h : s.Accounted) : s.takeReport.Accounted := by
  unfold State.takeReport
  split
  · next hm =>
    have hclosed : ({ s with mode := .closed } : State).Accounted := h.remode rfl (by rw [hm.1]; decide) nofun
    exact hclosed.drainReport
  · exact h

theorem State.Accounted.expireStall (h : s.Accounted) (n : LaneId) : (s.expireStall n).Accounted := by
  unfold State.expireStall
  split
  · next hw =>
    split
    · exact h
    · next hq => exact (h.stallDiscard hq (h.quiet n (by rw [hw.1]; rfl))).laneReport n
  · exact h

theorem State.Accounted.oweScan (h : s.Accounted) : s.oweScan.Accounted := by
  unfold State.oweScan
  split
  · exact h.same
  · split <;> exact h.same

theorem State.Accounted.visit (h : s.Accounted) (k : SlotId) : (s.visit k).Accounted := by
  have hreap : ∀ t stamp, (s.reapIfOld k t stamp).Accounted := by
    intro t stamp
    unfold State.reapIfOld
    split
    · exact (h.releaseSlot k).same.settleReturns
    · exact h
  unfold State.visit
  split
  · exact h
  · exact h
  · exact hreap _ _
  · exact hreap _ _

theorem State.Accounted.endReturnShard (h : s.Accounted) : s.endReturnShard.Accounted := by
  have h1 := h.same (v := State.arbitrate { s with ret := { s.ret with onLink := none } })
  unfold State.endReturnShard
  dsimp only
  split
  · exact h1.serve
  · exact h1
  · exact h1
  · exact h1

/-- Every command keeps every unit in one place; the build of start-up belongs to STARTING (09 R140). -/
theorem exec_accounted {i : Instr} {t : State} (hexec : exec i s = .next t)
    (hb : s.building = true → s.mode = .starting) (h : s.Accounted) : t.Accounted := by
  have hrequest : ∀ r, exec i s = .next (s.requestArrives r) → t.Accounted := fun r hr => by
    cases hr.symm.trans hexec
    exact h.requestArrives r
  cases i
  case resetnAssert =>
    cases hexec
    exact s.resetAll_accounted
  case resetnRelease =>
    cases hexec
    split
    · exact h.same
    · exact h
  case endOfStartUp =>
    cases hexec
    split
    · next hbuild => exact h.endStartUp (hb hbuild)
    · exact h
  case shardArrival v =>
    cases hexec
    exact h.takeOctets _
  case closeJudgement =>
    cases hexec
    split
    · exact h
    · exact State.Accounted.takeReport (h.same rfl rfl rfl rfl)
  case grant n w =>
    cases hexec
    split
    · exact h
    · exact h.takeGrant _ _
  case emissionEnd n =>
    cases hexec
    split
    · exact h
    · next hd => exact (h.endEmission hd).laneReport n
  case stallExpiry n =>
    cases hexec
    exact h.expireStall n
  case periodExpiry =>
    cases hexec
    split
    · exact State.Accounted.oweScan (h.same rfl rfl rfl rfl)
    · exact h
  case scanVisit =>
    cases hexec
    split
    · exact h
    · next k _ => exact (h.visit k).same rfl rfl rfl rfl
  case drainTimerExpiry =>
    cases hexec
    split
    · exact h.endDrain _ _
    · exact h
  case returnShardEnd =>
    cases hexec
    split
    · exact h.endReturnShard
    · exact h
  all_goals exact hrequest _ rfl

end Sys2Proof.Machine

open Sys2Proof Sys2Proof.Machine

/-- Settles O11: the unit law is the books of the store against slots and lanes (`State.unitLaw_iff`), which every command
keeps (`exec_accounted`); the modes say that the build runs in STARTING, the lanes' shapes that only a frame in flight is
an emission. -/
theorem stepKeepsEveryUnitInOnePlace : Obligations.StepKeepsEveryUnitInOnePlace := by
  intro s t hstep hmode hshapes hunits
  have h : s.Accounted := ⟨s.unitLaw_iff.mp hunits, fun n => Lane.quiet_of_shape (hshapes n)⟩
  unfold step at hstep
  split at hstep
  · cases hstep
    exact hunits
  · exact t.unitLaw_iff.mpr (exec_accounted hstep (fun hb => hmode.1 (.inr hb)) (h.same rfl rfl rfl rfl)).books

end

section
/-! SUPPORT. The STARTED notice on an idle link (09 R141, 10 R152, R156), and the CLOSING gate row by row (07 R116). -/

namespace Sys2Proof.Machine

/-- A notice raised on an IDLE link on which nothing waits begins at once, with the lost-notice count (10 R152, R157). -/
theorem State.raise_idle (s : State) (kind : NoticeKind) (t : Option ThreadId) (g : Option Tag) (n : Option LaneId)
    (c : Option (BitVec 16)) (hlink : s.ret.onLink = none) (hreplies : s.ret.replies = []) (hnotices : s.ret.notices = [])
    (hpending : s.ret.congestionPending = false) (hmask : s.ret.noticeMask.getLsbD kind.code = true) :
    s.raise kind t g n c = { s with ret := { s.ret with
      lostNotices := 0
      sequence := s.ret.sequence + 1
      onLink := some ⟨s.ret.sequence, .notice ⟨kind, t, g, n, c, s.aging.periodNo, s.ret.lostNotices⟩⟩ } } := by
  have hroom : ¬ s.ret.notices.length ≥ Config.noticePlaces := by rw [hnotices]; decide
  unfold State.raise
  rw [if_neg (by rw [hmask]; decide), if_neg hroom]
  let raised : Notice := ⟨kind, t, g, n, c, s.aging.periodNo, 0⟩
  have hbegun := ReturnLink.arbitrate_notice (s.ret.queueNotice raised) s.store.congestionContent
    { raised with lostBefore := s.ret.lostNotices } [] hlink
    (by simp [ReturnLink.queueNotice, hpending]) hreplies (by simp [ReturnLink.queueNotice, hnotices])
  refine (congrArg (fun r => { s with ret := r }) hbegun).trans ?_
  simp [ReturnLink.queueNotice, hnotices, raised]

/-- The build of start-up: the free list in numeric order, the mode INIT (09 R141, 04 R79). -/
def State.built (s : State) : State :=
  { s with
    building := false
    mode := .init
    store := { s.store with freeList := builtFreeList } }

/-- The period timer started at the PERIOD setting (05 R82). -/
def State.startPeriod (s : State) : State := { s with aging := { s.aging with timer := some s.aging.period } }

theorem State.endStartUp_eq (s : State) :
    s.endStartUp = (s.built.raise .started none none none none).startPeriod := rfl

section Gate

variable {s : State} {sh : DataShard} {k : SlotId}

/-- Of an unbound thread the gate passes the shards without F (07 R116). -/
theorem State.closingPasses_unbound (hb : (s.thread sh.thread).binding = none) : s.closingPasses sh = !sh.first := by
  simp [State.closingPasses, State.boundSlot_unbound hb]

variable (hb : (s.thread sh.thread).binding = some k)

include hb

theorem State.closingPasses_resting {t : ThreadId} {p : PeriodNo} {e : Seq} (hk : s.slot k = .resting t p e) :
    s.closingPasses sh = false := by
  simp [State.closingPasses, State.boundSlot, hb, hk]

theorem State.closingPasses_skipping {t : ThreadId} {p : PeriodNo} {g : Option Tag} {r : PoisonReason}
    (hk : s.slot k = .skipping t p g r) : s.closingPasses sh = (decide (g = some sh.tag) || !sh.first) := by
  simp [State.closingPasses, State.boundSlot, hb, hk]

theorem State.closingPasses_assembling {t : ThreadId} {p : PeriodNo} {a : Assembly}
    (hk : s.slot k = .assembling t p a) : s.closingPasses sh = true := by
  simp [State.closingPasses, State.boundSlot, hb, hk]

end Gate

section Closing

variable {s : State} {v : Vector Byte 64} (hv : headerSound v) (hkind : kindBits v = 0b01#2) (hm : s.mode = .closing)

include hv hkind hm

theorem exec_dataShard_closing : exec (.shardArrival v) s = .next (
    if s.closingPasses (shardFields v) then
      if (s.thread (shardFields v).thread).active.enabled then (s.takeShard (shardFields v)).settleReturns
      else s.bumpDrop .disabled
    else s.bumpDrop .notRunning) := by
  have hgate : s.modePasses (shardFields v) = s.closingPasses (shardFields v) := by rw [State.modePasses, hm]
  rw [exec_dataShard s v (by rw [hm]; decide) hv hkind, hgate]

theorem exec_dataShard_dropped (h : s.closingPasses (shardFields v) = false) :
    exec (.shardArrival v) s = .next (s.bumpDrop .notRunning) := by
  rw [exec_dataShard_closing hv hkind hm, if_neg (by rw [h]; decide)]

theorem exec_dataShard_passed (h : s.closingPasses (shardFields v) = true) :
    exec (.shardArrival v) s = .next (
      if (s.thread (shardFields v).thread).active.enabled = true then (s.takeShard (shardFields v)).settleReturns
      else s.bumpDrop .disabled) := by
  rw [exec_dataShard_closing hv hkind hm, if_pos h]

end Closing

end Sys2Proof.Machine

open Sys2Proof Sys2Proof.Machine

/-- Settles O15: the build is the list of all units (`builtFreeList_eq_finRange`), and on the idle link the STARTED notice
begins at once (`State.raise_idle`). -/
theorem startUpEndsInInit : Obligations.StartUpEndsInInit := by
  refine ⟨fun s => rfl, fun s hb => ?_, fun s hb hlink hreplies hnotices hpending hmask => ?_⟩
  · show Host.Outcome.next (if s.building then s.endStartUp else s) = _
    rw [if_neg (by rw [hb]; decide)]
  · show Host.Outcome.next (if s.building then s.endStartUp else s) = _
    rw [if_pos hb]
    rw [State.endStartUp_eq, State.raise_idle s.built .started _ _ _ _ hlink hreplies hnotices hpending hmask,
      State.built, builtFreeList_eq_finRange]
    rfl

/-- Settles O22: the gate's verdict on each row (`State.closingPasses_unbound` and its companions), then the enabled check
(`exec_dataShard_dropped`, `exec_dataShard_passed`). -/
theorem closingGateOfDataShards : Obligations.ClosingGateOfDataShards := by
  intro s v hv hkind hm
  have hdropped := exec_dataShard_dropped hv hkind hm
  have hpassed := exec_dataShard_passed hv hkind hm
  refine ⟨fun hb hf => hdropped ?_, fun hb hf => hpassed ?_, fun k hb => ⟨fun t p e hk => hdropped ?_,
    fun t p g r hk hg hf => hdropped ?_, fun t p g r hk hg => hpassed ?_, fun t p r hk hf => hdropped ?_,
    fun t p r hk hf => hpassed ?_, fun t p a hk => hpassed ?_⟩⟩
  · simp [State.closingPasses_unbound hb, hf]
  · simp [State.closingPasses_unbound hb, hf]
  · exact State.closingPasses_resting hb hk
  · simp [State.closingPasses_skipping hb hk, hg, hf]
  · simpa [State.closingPasses_skipping hb hk] using hg
  · simp [State.closingPasses_skipping hb hk, hf]
  · simp [State.closingPasses_skipping hb hk, hf]
  · exact State.closingPasses_assembling hb hk

end

section
/-! SUPPORT. READ_SETTING answered by a ready engine (08 R125, 04 R81). -/

namespace Sys2Proof.Machine

/-- No setting shows the reply reservation. -/
theorem State.settingContent_reserved (s : State) (b : Bool) (i : Nat) :
    { s with engine := { s.engine with reserved := b } }.settingContent i = s.settingContent i := rfl

/-- A STATUS read shows the engine READY and the requests left waiting behind it (08 R125). -/
theorem State.settingContent_status {s : State} (hidle : s.engine.inProgress = none) : s.settingContent 1 =
    some (.deviceStatus s.mode s.aging.periodNo s.aging.cursor.isSome false s.engine.queue.length) := by
  simp [State.settingContent, hidle]

theorem State.settingContent_quota (s : State) (c : ClassId) :
    s.settingContent (5 + c.val) = some (.value (BitVec.ofNat 16 (s.cls c).quota)) := by
  fin_cases c <;> rfl

theorem State.settingContent_warn (s : State) (c : ClassId) :
    s.settingContent (9 + c.val) = some (.value (BitVec.ofNat 16 (s.cls c).warn)) := by
  fin_cases c <;> rfl

theorem State.settingContent_stall (s : State) (n : LaneId) :
    s.settingContent (15 + n.val) = some (.value (BitVec.ofNat 16 (s.lane n).stallLimit)) := by
  fin_cases n <;> rfl

/-- A UNITS read lists the four classes in order (04 R81). -/
theorem State.settingContent_units (s : State) : s.settingContent 19 = some (.occupancy s.store.freeList.length
    [(s.cls 0).usage, (s.cls 1).usage, (s.cls 2).usage, (s.cls 3).usage]
    (s.slotCount .free) (s.slotCount .assembling) (s.slotCount .skipping) (s.slotCount .resting)) := by
  simp only [State.settingContent, Vector.toList_four]
  rfl

theorem State.settingContent_none (s : State) {i : Nat} (hi : 20 ≤ i) : s.settingContent i = none := by
  obtain ⟨j, rfl⟩ := Nat.exists_eq_add_of_le' hi
  rfl

theorem exec_readSetting_ready {s : State} (h : s.ready) (num : BitVec 16) (index : Byte) :
    exec (.readSetting num index) s = .next (match s.settingContent index.toNat with
      | some content => s.queueReply ⟨num, 0x01, .done, content⟩
      | none => s.queueReply ⟨num, 0x01, .unknown, .empty⟩) := by
  show Host.Outcome.next (s.requestArrives (requestWith num 0x01 [index])) = _
  rw [State.requestArrives_ready s _ h]
  show Host.Outcome.next (State.doReadSetting _ (requestWith num 0x01 [index])) = _
  unfold State.doReadSetting
  rw [requestWith_octet, State.settingContent_reserved]
  cases s.settingContent index.toNat with
  | none => exact congrArg _ (State.answer_ready s s _ _ _ h rfl)
  | some content => exact congrArg _ (State.answer_ready s s _ _ _ h rfl)

theorem exec_readSetting_done {s : State} (h : s.ready) (num : BitVec 16) (index : Byte) {content : ReplyResult}
    (hc : s.settingContent index.toNat = some content) :
    exec (.readSetting num index) s = .next (s.queueReply ⟨num, 0x01, .done, content⟩) := by
  rw [exec_readSetting_ready h, hc]

theorem exec_readSetting_unknown {s : State} (h : s.ready) (num : BitVec 16) (index : Byte) (hi : 20 ≤ index.toNat) :
    exec (.readSetting num index) s = .next (s.queueReply ⟨num, 0x01, .unknown, .empty⟩) := by
  rw [exec_readSetting_ready h, State.settingContent_none s hi]

/-- A STATUS read taken behind other requests shows the ones left waiting (08 R125). -/
theorem State.carryOut_statusRead {s : State} {r : Request} (hcode : r.code = 0x01) (hindex : r.octet 3 = 1)
    (hidle : s.engine.inProgress = none) :
    s.carryOut r = { s with engine := { s.engine with reserved := false } }.queueReply ⟨r.number, 0x01, .done,
      .deviceStatus s.mode s.aging.periodNo s.aging.cursor.isSome false s.engine.queue.length⟩ := by
  have hname : requestName r.code = some .readSetting := by rw [hcode]; rfl
  rw [State.carryOut, hname]
  show s.doReadSetting r = _
  rw [State.doReadSetting, hindex]
  show (match s.settingContent 1 with | some content => s.answer r .done content | none => s.decline r .unknown) = _
  rw [State.settingContent_status hidle, ← hcode]
  rfl

end Sys2Proof.Machine

open Sys2Proof Sys2Proof.Machine

/-- Settles O51: a ready engine replies with the content of the setting (`exec_readSetting_ready`), listed index by index. -/
theorem readSettingAnswersTheSetting : Obligations.ReadSettingAnswersTheSetting := by
  refine ⟨fun s num index h => ?_, fun s r hcode hindex hidle => State.carryOut_statusRead hcode hindex hidle⟩
  intro i answered
  have hstatus : s.settingContent 1 =
      some (.deviceStatus s.mode s.aging.periodNo s.aging.cursor.isSome false 0) := by
    obtain ⟨-, hqueue, hidle, -, -⟩ := h
    rw [State.settingContent_status hidle, hqueue, List.length_nil]
  have done {n : Nat} {c : ReplyResult} (hc : s.settingContent n = some c) (hi : i = n) : answered c :=
    exec_readSetting_done h num index ((congrArg s.settingContent hi).trans hc)
  exact ⟨done rfl, done hstatus, done rfl, done rfl, done rfl,
    fun c => done (s.settingContent_quota c), fun c => done (s.settingContent_warn c), done rfl, done rfl,
    fun n => done (s.settingContent_stall n), done s.settingContent_units, exec_readSetting_unknown h num index⟩

end

section
/-! SUPPORT. The writes of QUOTA, WARN and HYSTERESIS taken by a ready engine (04 R75 to R78). -/

namespace Sys2Proof.Machine

theorem writeSettingRequest_field (num : BitVec 16) (i : Nat) (v : BitVec 16) :
    (writeSettingRequest num i v).field 4 = v := fieldOctets_join v

/-! ### Which write an index names (08 R126) -/

section Named

variable (s : State) (num v : BitVec 16)

theorem State.carryOut_writeSetting (i : Nat) :
    s.carryOut (writeSettingRequest num i v) = s.doWriteSetting (writeSettingRequest num i v) := rfl

theorem State.carryOut_writeQuota (c : ClassId) : s.carryOut (writeSettingRequest num (5 + c.val) v) =
    s.doWriteQuota (writeSettingRequest num (5 + c.val) v) c v := by
  rw [State.carryOut_writeSetting, State.doWriteSetting, writeSettingRequest_field]
  fin_cases c <;> rfl

theorem State.carryOut_writeWarn (c : ClassId) : s.carryOut (writeSettingRequest num (9 + c.val) v) =
    s.doWriteWarn (writeSettingRequest num (9 + c.val) v) c v := by
  rw [State.carryOut_writeSetting, State.doWriteSetting, writeSettingRequest_field]
  fin_cases c <;> rfl

theorem State.carryOut_writeHysteresis : s.carryOut (writeSettingRequest num 13 v) =
    s.doWriteHysteresis (writeSettingRequest num 13 v) v := by
  rw [State.carryOut_writeSetting, State.doWriteSetting, writeSettingRequest_field]
  rfl

end Named

/-! ### A ready engine's reply -/

section Ready

variable {s : State} (h : s.ready) (num v : BitVec 16)

/-- The engine record while a request of a ready engine is carried out: the reply reservation held (08 R122). -/
def State.reserving (s : State) : State := s.withEngine { s.engine with reserved := true }

include h

/-- The DONE reply to a write whose effect `t` leaves the engine alone (08 R123, R126). -/
theorem State.answer_written (t : State) (i : Nat) (ht : t.engine = s.engine) :
    (t.withEngine s.reserving.engine).answer (writeSettingRequest num i v) .done (.value v) =
      t.queueReply ⟨num, 0x02, .done, .value v⟩ :=
  State.answer_ready s t _ _ _ h ht

/-- The RANGE reply to a write that changes nothing (08 R123, R126). -/
theorem State.decline_range (i : Nat) :
    s.reserving.decline (writeSettingRequest num i v) .range = s.queueReply ⟨num, 0x02, .range, .empty⟩ :=
  State.answer_ready s s _ _ _ h rfl

theorem exec_writeQuota_ready (c : ClassId) : exec (.writeQuota num c v) s = .next (
    if v.toNat ≤ 8192 ∧ (s.cls c).warn ≤ v.toNat then
      (s.setCls c { s.cls c with quota := v.toNat }).queueReply ⟨num, 0x02, .done, .value v⟩
    else s.queueReply ⟨num, 0x02, .range, .empty⟩) := by
  show Host.Outcome.next (s.requestArrives (writeSettingRequest num (5 + c.val) v)) = _
  rw [State.requestArrives_ready s _ h, State.carryOut_writeQuota,
    ← State.answer_written h num v (s.setCls c { s.cls c with quota := v.toNat }) (5 + c.val) rfl,
    ← State.decline_range h num v (5 + c.val)]
  rfl

theorem exec_writeWarn_ready (c : ClassId) : exec (.writeWarn num c v) s = .next (
    if v.toNat ≤ 8192 ∧ v.toNat ≤ (s.cls c).quota then
      ((s.setCls c { s.cls c with warn := v.toNat }).rejudge c).queueReply ⟨num, 0x02, .done, .value v⟩
    else s.queueReply ⟨num, 0x02, .range, .empty⟩) := by
  show Host.Outcome.next (s.requestArrives (writeSettingRequest num (9 + c.val) v)) = _
  rw [State.requestArrives_ready s _ h, State.carryOut_writeWarn,
    ← State.answer_written h num v ((s.setCls c { s.cls c with warn := v.toNat }).rejudge c) (9 + c.val)
      (State.foldl_rejudge_engine [c] _),
    ← State.decline_range h num v (9 + c.val), ← State.rejudge_withEngine]
  rfl

theorem exec_writeHysteresis_ready : exec (.writeHysteresis num v) s = .next (
    if v.toNat ≤ 1024 then
      (classIds.foldl State.rejudge { s with store := { s.store with hysteresis := v.toNat } }).queueReply
        ⟨num, 0x02, .done, .value v⟩
    else s.queueReply ⟨num, 0x02, .range, .empty⟩) := by
  show Host.Outcome.next (s.requestArrives (writeSettingRequest num 13 v)) = _
  rw [State.requestArrives_ready s _ h, State.carryOut_writeHysteresis,
    ← State.answer_written h num v
      (classIds.foldl State.rejudge { s with store := { s.store with hysteresis := v.toNat } }) 13
      (State.foldl_rejudge_engine _ _),
    ← State.decline_range h num v 13,
    ← State.foldl_withEngine State.rejudge fun s c e => State.rejudge_withEngine s e c]
  rfl

end Ready

end Sys2Proof.Machine

open Sys2Proof Sys2Proof.Machine

/-- Settles O54: what a ready engine answers to each write (`exec_writeQuota_ready`, `exec_writeWarn_ready`,
`exec_writeHysteresis_ready`), by whether the value is in range. -/
theorem storeSettingWritesAnswerByRange : Obligations.StoreSettingWritesAnswerByRange := by
  intro s num v h
  refine ⟨fun c => ⟨fun hmax hwarn => ?_, fun hout => ?_, fun hmax hquota => ?_, fun hout => ?_⟩, fun hmax => ?_,
    fun hout => ?_⟩
  · rw [exec_writeQuota_ready h, if_pos ⟨hmax, hwarn⟩]
  · rw [exec_writeQuota_ready h, if_neg (by omega)]
  · rw [exec_writeWarn_ready h, if_pos ⟨hmax, hquota⟩]
  · rw [exec_writeWarn_ready h, if_neg (by omega)]
  · rw [exec_writeHysteresis_ready h, if_pos hmax]
    rfl
  · rw [exec_writeHysteresis_ready h, if_neg (by omega)]

end

section
/-! SUPPORT. The period expiry (05 R83). -/

namespace Sys2Proof.Machine

theorem exec_periodExpiry_stopped {s : State} (h : s.aging.timer = none) : exec .periodExpiry s = .next s :=
  congrArg Host.Outcome.next (if_neg (by simp [h]))

theorem exec_periodExpiry_running {s : State} (h : s.aging.timer.isSome = true) :
    exec .periodExpiry s = .next { s with aging := s.aging.advance }.oweScan :=
  congrArg Host.Outcome.next (if_pos h)

/-! ### The scan started or owed -/

section OweScan

variable {s : State}

theorem State.oweScan_idle (hidle : s.aging.cursor = none) :
    s.oweScan = { s with aging := { s.aging with cursor := some 0 } } := by
  simp only [State.oweScan, hidle]

theorem State.oweScan_scanning (hscan : s.aging.cursor.isSome = true) (hpend : s.aging.expiryPending = false) :
    s.oweScan = { s with aging := { s.aging with expiryPending := true } } := by
  obtain ⟨k, hk⟩ := Option.isSome_iff_exists.mp hscan
  simp [State.oweScan, hk, hpend]

theorem State.oweScan_overrun (hscan : s.aging.cursor.isSome = true) (hpend : s.aging.expiryPending = true) :
    s.oweScan = s.bumpDevice .agingOverrun := by
  obtain ⟨k, hk⟩ := Option.isSome_iff_exists.mp hscan
  simp [State.oweScan, hk, hpend]

end OweScan

end Sys2Proof.Machine

open Sys2Proof Sys2Proof.Machine

/-- Settles O43: while the timer runs the period advances, which leaves the scan as it was, and the scan started or owed
goes by its state. -/
theorem periodExpiryAdvancesThePeriod : Obligations.PeriodExpiryAdvancesThePeriod := by
  refine fun s => ⟨exec_periodExpiry_stopped, fun hrun => ?_⟩
  rw [exec_periodExpiry_running hrun]
  exact ⟨fun hidle => congrArg _ (State.oweScan_idle hidle),
    fun hscan hpend => congrArg _ (State.oweScan_scanning hscan hpend),
    fun hscan hpend => congrArg _ (State.oweScan_overrun hscan hpend)⟩

end

section
/-! SUPPORT. WRITE_SETTING outside the Parcel Store taken by a ready engine (05 R89, 06 R99, 07 R114, 08 R126). -/

namespace Sys2Proof.Machine

/-! ### Which write an index names (08 R126) -/

section Named

variable (s : State) (num v : BitVec 16)

theorem State.carryOut_writeController : s.carryOut (writeSettingRequest num 2 v) =
    s.doWriteController (writeSettingRequest num 2 v) v := by
  rw [State.carryOut_writeSetting, State.doWriteSetting, writeSettingRequest_field]
  rfl

theorem State.carryOut_writePeriod : s.carryOut (writeSettingRequest num 3 v) =
    s.doWritePeriod (writeSettingRequest num 3 v) v := by
  rw [State.carryOut_writeSetting, State.doWriteSetting, writeSettingRequest_field]
  rfl

theorem State.carryOut_writeDrainLimit : s.carryOut (writeSettingRequest num 4 v) =
    s.doWriteDrainLimit (writeSettingRequest num 4 v) v := by
  rw [State.carryOut_writeSetting, State.doWriteSetting, writeSettingRequest_field]
  rfl

theorem State.carryOut_writeNoticeMask : s.carryOut (writeSettingRequest num 14 v) =
    s.doWriteNoticeMask (writeSettingRequest num 14 v) v := by
  rw [State.carryOut_writeSetting, State.doWriteSetting, writeSettingRequest_field]
  rfl

theorem State.carryOut_writeStall (n : LaneId) : s.carryOut (writeSettingRequest num (15 + n.val) v) =
    s.doWriteStall (writeSettingRequest num (15 + n.val) v) n v := by
  rw [State.carryOut_writeSetting, State.doWriteSetting, writeSettingRequest_field]
  fin_cases n <;> rfl

/-- The read-only settings are IDENT, STATUS and UNITS (11 R164). -/
theorem State.carryOut_writeReadOnly {i : Nat} (hi : i = 0 ∨ i = 1 ∨ i = 19) :
    s.carryOut (writeSettingRequest num i v) = s.decline (writeSettingRequest num i v) .readOnly := by
  obtain rfl | rfl | rfl := hi <;> rfl

theorem State.doWriteSetting_unknown {r : Request} (hi : 20 ≤ (r.octet 3).toNat) :
    s.doWriteSetting r = s.decline r .unknown := by
  obtain ⟨j, hj⟩ := Nat.exists_eq_add_of_le' hi
  rw [State.doWriteSetting, hj]
  rfl

theorem writeSettingRequest_octet (index : Byte) : (writeSettingRequest num index.toNat v).octet 3 = index :=
  (BitVec.ofNat_toNat 8 index).trans (BitVec.setWidth_eq index)

end Named

/-! ### A ready engine's reply -/

section Ready

variable {s : State} (h : s.ready) (num v : BitVec 16)

include h

/-- A ready engine carries out a write at once, the reservation held (08 R121, R122). -/
theorem State.writeSetting_taken (i : Nat) : s.requestArrives (writeSettingRequest num i v) =
    s.reserving.carryOut (writeSettingRequest num i v) :=
  State.requestArrives_ready s _ h

/-- The reply to a write that is not carried out (08 R123, R126). -/
theorem State.decline_writeSetting (st : Status) (i : Nat) :
    s.reserving.decline (writeSettingRequest num i v) st = s.queueReply ⟨num, 0x02, st, .empty⟩ :=
  State.answer_ready s s _ _ _ h rfl

/-- What a ready engine answers to a write that its setting's range `P` admits or not, where `t` is the state with the
setting written: writing no more than a setting, it is ready as before. -/
theorem State.requestArrives_write {t : State} (ht : t.ready) {P : Prop} [Decidable P] {i : Nat}
    (hwrite : s.reserving.carryOut (writeSettingRequest num i v) =
      if P then t.reserving.answer (writeSettingRequest num i v) .done (.value v)
      else s.reserving.decline (writeSettingRequest num i v) .range) :
    s.requestArrives (writeSettingRequest num i v) =
      if P then t.queueReply ⟨num, 0x02, .done, .value v⟩ else s.queueReply ⟨num, 0x02, .range, .empty⟩ := by
  rw [State.writeSetting_taken h, hwrite, ← State.answer_written ht num v t i rfl, ← State.decline_range h num v i]
  rfl

theorem exec_writeController_ready : exec (.writeController num v) s = .next (
    if v.toNat ≤ 63 then
      { s with controller := Fin.ofNat 64 v.toNat }.queueReply ⟨num, 0x02, .done, .value v⟩
    else s.queueReply ⟨num, 0x02, .range, .empty⟩) :=
  congrArg _ (State.requestArrives_write h num v (t := { s with controller := Fin.ofNat 64 v.toNat }) h
    (State.carryOut_writeController _ num v))

theorem exec_writePeriod_ready : exec (.writePeriod num v) s = .next (
    if 1 ≤ v.toNat then
      { s with aging := { s.aging with period := v.toNat } }.queueReply ⟨num, 0x02, .done, .value v⟩
    else s.queueReply ⟨num, 0x02, .range, .empty⟩) :=
  congrArg _ (State.requestArrives_write h num v (t := { s with aging := { s.aging with period := v.toNat } }) h
    (State.carryOut_writePeriod _ num v))

theorem exec_writeDrainLimit_ready : exec (.writeSetting num 4 v) s = .next (
    if 1 ≤ v.toNat then
      { s with engine := { s.engine with drainLimit := v.toNat } }.queueReply ⟨num, 0x02, .done, .value v⟩
    else s.queueReply ⟨num, 0x02, .range, .empty⟩) :=
  congrArg _ (State.requestArrives_write h num v (t := { s with engine := { s.engine with drainLimit := v.toNat } }) h
    (State.carryOut_writeDrainLimit _ num v))

theorem exec_writeNoticeMask_ready : exec (.writeSetting num 14 v) s = .next (
    if v.getLsbD 15 = false then
      { s with ret := { s.ret with noticeMask := v } }.queueReply ⟨num, 0x02, .done, .value v⟩
    else s.queueReply ⟨num, 0x02, .range, .empty⟩) :=
  congrArg _ (State.requestArrives_write h num v (t := { s with ret := { s.ret with noticeMask := v } }) h
    (State.carryOut_writeNoticeMask _ num v))

/-- Every 16-bit value is in the range of STALLn (06 R99). -/
theorem exec_writeStall_ready (n : LaneId) : exec (.writeStall num n v) s = .next
    ((s.setLane n { s.lane n with stallLimit := v.toNat }).queueReply ⟨num, 0x02, .done, .value v⟩) := by
  show Host.Outcome.next (s.requestArrives (writeSettingRequest num (15 + n.val) v)) = _
  rw [State.writeSetting_taken h, State.carryOut_writeStall,
    ← State.answer_written h num v (s.setLane n { s.lane n with stallLimit := v.toNat }) (15 + n.val) rfl]
  rfl

theorem exec_writeSetting_readOnly {index : Byte} (hi : index.toNat = 0 ∨ index.toNat = 1 ∨ index.toNat = 19) :
    exec (.writeSetting num index v) s = .next (s.queueReply ⟨num, 0x02, .readOnly, .empty⟩) := by
  show Host.Outcome.next (s.requestArrives (writeSettingRequest num index.toNat v)) = _
  rw [State.writeSetting_taken h, State.carryOut_writeReadOnly _ _ _ hi, State.decline_writeSetting h]

theorem exec_writeSetting_unknown {index : Byte} (hi : 20 ≤ index.toNat) :
    exec (.writeSetting num index v) s = .next (s.queueReply ⟨num, 0x02, .unknown, .empty⟩) := by
  show Host.Outcome.next (s.requestArrives (writeSettingRequest num index.toNat v)) = _
  rw [State.writeSetting_taken h, State.carryOut_writeSetting,
    State.doWriteSetting_unknown _ (by rwa [writeSettingRequest_octet]), State.decline_writeSetting h]

end Ready

end Sys2Proof.Machine

open Sys2Proof Sys2Proof.Machine

/-- Settles O53: what a ready engine answers to each write (`exec_writeController_ready` and its companions), by whether the
value is in range and the index names a setting that can be written. -/
theorem settingWritesAnswerByRange : Obligations.SettingWritesAnswerByRange := by
  intro s num v h written declined
  have hpos (hv : v ≠ 0) : 1 ≤ v.toNat := by bv_omega
  have hzero (hv : v = 0) : ¬ 1 ≤ v.toNat := by bv_omega
  refine ⟨fun hv => ?_, fun hv => ?_, fun hv => ?_, fun hv => ?_, exec_writeStall_ready h num v, fun hv => ?_,
    fun hv => ?_, fun hv => ?_, fun hv => ?_, exec_writeSetting_readOnly h num v (by decide),
    exec_writeSetting_readOnly h num v (by decide), exec_writeSetting_readOnly h num v (by decide),
    fun index => exec_writeSetting_unknown h num v⟩
  · rw [exec_writeController_ready h, if_pos hv]
  · rw [exec_writeController_ready h, if_neg (by omega)]
  · rw [exec_writePeriod_ready h, if_pos (hpos hv)]
  · rw [exec_writePeriod_ready h, if_neg (hzero hv)]
  · rw [exec_writeDrainLimit_ready h, if_pos (hpos hv)]
  · rw [exec_writeDrainLimit_ready h, if_neg (hzero hv)]
  · rw [exec_writeNoticeMask_ready h, if_pos hv]
  · rw [exec_writeNoticeMask_ready h, if_neg (by rw [hv]; decide)]

end

section
/-! SUPPORT. What a command can do to the lanes: rules for each lane operation, from which every command is followed once; the lane laws meet them (06 6.1, R92 to R108). -/

namespace Sys2Proof.Machine

/-- The rules under which every command keeps a property `p` of each lane: one for each operation of a Lane Controller. -/
structure LaneRules (p : Lane → Prop) : Prop where
  append : ∀ {l : Lane} (d : Descriptor), l.queue.length < Config.laneQueuePlaces → p l → p (l.append d)
  addCredit : ∀ {l : Lane} (g : Nat), p l → p (l.addCredit g)
  endEmission : ∀ {l : Lane} (frame : List Byte), p l → p (l.endEmission frame)
  stallDiscard : ∀ {l : Lane} {d : Descriptor} {rest : List Descriptor}, l.state = .waiting → l.queue = d :: rest →
    p l → p ({ l with queue := rest }.judgeHead true)
  start : ∀ {l : Lane}, p l → p l.start
  stop : ∀ {l : Lane}, p l → p l.stop
  flush : ∀ {l : Lane}, p l → p l.flush
  stallLimit : ∀ {l : Lane} (limit : Nat), p l → p { l with stallLimit := limit }
  restart : ∀ {l l' : Lane} {count count' : LaneCounter → BitVec 32} {frame : Descriptor → List Byte},
    l.RestartedTo l' count count' frame → p l → p l'
  reset : p Lane.default

/-- Each lane has the property. -/
def State.everyLane (s : State) (p : Lane → Prop) : Prop := ∀ n : LaneId, p (s.lane n)

section Every

variable {p : Lane → Prop} {s v : State}

theorem State.everyLane.same (h : s.everyLane p) (hv : v.lanes = s.lanes := by simp) : v.everyLane p := fun n => by
  rw [State.lane_congr s v n hv]
  exact h n

theorem State.everyLane.setLane (h : s.everyLane p) {n : LaneId} {l : Lane} (hl : p l) : (s.setLane n l).everyLane p :=
  fun m => by
    rw [State.lane_setLane]
    split
    · exact hl
    · exact h m

end Every

/-! ### What leaves every lane: the Slot Table but for the seal -/

@[simp] theorem State.dropEntries_lanes (s : State) (es : List EarlyEntry) (c : DropCounter) :
    (s.dropEntries es c).lanes = s.lanes := (s.dropEntries_modeLanes es c).2

@[simp] theorem State.orphanEntries_lanes (s : State) (t : ThreadId) (es : List EarlyEntry) :
    (s.orphanEntries t es).lanes = s.lanes := (s.orphanEntries_modeLanes t es).2

@[simp] theorem State.restartParcel_lanes (s : State) (t : ThreadId) (a : Assembly) (e : EarlyEntry) (x : Nat) :
    (s.restartParcel t a e x).2.lanes = s.lanes := by
  simp [State.restartParcel]

@[simp] theorem State.evict_lanes (s : State) (k : SlotId) : (s.evict k).lanes = s.lanes := by
  unfold State.evict
  split <;> rfl

theorem State.claim_lanes {s z : State} {c : ClassId} {payload : List Byte} {u : UnitNo}
    (h : s.claim c payload = .taken u z) : z.lanes = s.lanes := by
  obtain ⟨-, rest, -, rfl⟩ := (State.claim_taken_iff s z c payload u).mp h
  simp

/-- The end of a parcel behind its seal or discard leaves every lane (02 R39 to R41). -/
theorem State.finishParcel_lanes (s : State) (k : SlotId) (t : ThreadId) (stamp : PeriodNo) (x : Seq)
    (held : List EarlyEntry) : (s.finishParcel k t stamp x held).state.lanes = s.lanes := by
  cases hp : (s.thread t).pending with
  | some c => simp [s.finishParcel_displaces k t stamp x held hp, Placed.state]
  | none =>
    cases hr : (s.thread t).active.retain && (s.thread t).active.enabled with
    | false => simp [s.finishParcel_orphans k t stamp x held hp hr, Placed.state]
    | true =>
      by_cases hne : held = []
      · simp [hne, s.finishParcel_empty k t stamp x hp, Placed.state]
      · by_cases hm : s.mode = .closing
        · simp [s.finishParcel_closing k t stamp x held hp hr hne hm, Placed.state]
        · rw [s.finishParcel_next k t stamp x held hp hr hne hm]
          unfold State.nextParcel
          split
          · rfl
          · simp [Placed.state]

/-! ### What leaves every lane: requests other than LANE, RESTART and a write of STALL -/

@[simp] theorem State.decline_lanes (s : State) (r : Request) (st : Status) : (s.decline r st).lanes = s.lanes := rfl

theorem State.answerLane_lanes (s : State) (r : Request) (n : LaneId) (m : Nat) :
    (s.answerLane r n m).lanes = s.lanes := rfl

theorem State.writeThread_lanes (s : State) (r : Request) (t : ThreadId) (c : ThreadConfig) :
    (s.writeThread r t c).lanes = s.lanes := by
  unfold State.writeThread
  split
  · rfl
  · split
    · rfl
    · split <;> rfl
    · rfl
    · rfl

theorem State.cutSkipThread_lanes (q : State × Nat) (t : ThreadId) : (State.cutSkipThread q t).1.lanes = q.1.lanes := by
  unfold State.cutSkipThread
  split
  · rfl
  · split <;> simp

theorem State.cutReleaseThread_lanes (q : State × Nat × Nat) (t : ThreadId) :
    (State.cutReleaseThread q t).1.lanes = q.1.lanes := by
  unfold State.cutReleaseThread
  split
  · rfl
  · dsimp only
    split <;> simp

theorem State.doCut_lanes (s : State) (r : Request) : (s.doCut r).lanes = s.lanes := by
  unfold State.doCut
  split
  · next ts _ _ =>
    simpa using foldl_keeps (p := fun q : State × Nat => q.1.lanes = s.lanes)
      (fun q t h => (State.cutSkipThread_lanes q t).trans h) ts (b := (s, 0)) rfl
  · next ts _ _ =>
    simpa using foldl_keeps (p := fun q : State × Nat × Nat => q.1.lanes = s.lanes)
      (fun q t h => (State.cutReleaseThread_lanes q t).trans h) ts (b := (s, 0, 0)) rfl
  · rfl

theorem State.beginDrain_lanes (s : State) (r : Request) : (s.beginDrain r).lanes = s.lanes := by
  unfold State.beginDrain
  split <;> rfl

theorem State.judgeClose_lanes (s : State) : s.judgeClose.lanes = s.lanes := by
  unfold State.judgeClose
  split <;> rfl

theorem State.doDrain_lanes (s : State) (r : Request) : (s.doDrain r).lanes = s.lanes := by
  unfold State.doDrain
  split
  · rfl
  · rfl
  · exact (State.beginDrain_lanes _ r).trans (State.judgeClose_lanes _)
  · exact (State.beginDrain_lanes _ r).trans (State.judgeClose_lanes _)
  · exact State.beginDrain_lanes _ r

theorem State.doReadCounters_lanes (s : State) (r : Request) : (s.doReadCounters r).lanes = s.lanes := by
  unfold State.doReadCounters
  dsimp only
  split
  · split <;> rfl
  · split <;> rfl
  · split
    · rfl
    · split <;> rfl
  · split <;> rfl
  · rfl

/-- A visit leaves every lane (05 R85, R86). -/
theorem State.visit_lanes (s : State) (k : SlotId) : (s.visit k).lanes = s.lanes := by
  have hreap : ∀ t stamp, (s.reapIfOld k t stamp).lanes = s.lanes := fun t stamp => by
    unfold State.reapIfOld State.reap
    split <;> simp
  unfold State.visit
  split
  · rfl
  · rfl
  · exact hreap _ _
  · exact hreap _ _

/-! ### What the lane operations write -/

theorem State.endEmission_lanes (s : State) (n : LaneId) (d : Descriptor) :
    (s.endEmission n d).lanes = (s.setLane n ((s.lane n).endEmission (s.frameOctets d))).lanes := by
  simp [State.endEmission, State.setLane]

theorem State.stallDiscard_lanes (s : State) (n : LaneId) (d : Descriptor) (rest : List Descriptor) :
    (s.stallDiscard n d rest).lanes = (s.setLane n ({ s.lane n with queue := rest }.judgeHead true)).lanes := by
  unfold State.stallDiscard
  simp only [State.settleReturns_lanes, State.lane_bumpLane, State.lane_raise, State.lane_returnChain,
    State.lane_setLane_self]
  simp [State.setLane]

theorem State.flushLane_lanes (s : State) (n : LaneId) : (s.flushLane n).lanes = (s.setLane n (s.lane n).flush).lanes := by
  obtain ⟨-, -, hlanes, -⟩ := State.foldl_returnChain_frame (s.lane n).queue (s.setLane n (s.lane n).flush)
  unfold State.flushLane
  dsimp only
  split <;> simp [hlanes]

/-! ### The Slot Table: a sealed parcel joins its lane (06 R93) -/

section Follow

variable {p : Lane → Prop} (rules : LaneRules p) {s : State}

include rules

theorem LaneRules.sealParcel (t : ThreadId) (a : Assembly) (e : EarlyEntry) (h : s.everyLane p) :
    (s.sealParcel t a e).everyLane p := by
  unfold State.sealParcel
  dsimp only
  split
  · split
    · next z hz =>
      unfold State.offer at hz
      split at hz
      · next hroom =>
        cases hz
        exact (h.setLane (rules.append _ hroom (h _))).same rfl
      · cases hz
    · exact h.same
  · exact h.same

theorem LaneRules.placePassed (k : SlotId) (t : ThreadId) (stamp : PeriodNo) (a : Assembly) (e : EarlyEntry)
    (h : s.everyLane p) : (s.placePassed k t stamp a e).state.everyLane p := by
  unfold State.placePassed
  dsimp only
  split
  · exact (rules.sealParcel t _ e h).same (State.finishParcel_lanes _ _ _ _ _ _)
  · exact h

theorem LaneRules.placeShard (k : SlotId) (t : ThreadId) (stamp : PeriodNo) (a : Assembly) (e : EarlyEntry)
    (h : s.everyLane p) : (s.placeShard k t stamp a e).state.everyLane p := by
  unfold State.placeShard
  split
  · split
    · exact rules.placePassed _ _ _ _ _ h
    · exact h.same (State.poison_lanes ..)
  · split
    · exact rules.placePassed _ _ _ _ _ h.same
    · split
      · exact rules.placePassed _ _ _ _ _ h
      · exact h.same (State.poison_lanes ..)

theorem LaneRules.drainEarly (k : SlotId) (t : ThreadId) (stamp : PeriodNo) (n : Nat) (a : Assembly)
    (h : s.everyLane p) : (State.drainEarly k t stamp n a s).everyLane p := by
  induction n generalizing a s with
  | zero => exact h.same rfl
  | succ n ih =>
    unfold State.drainEarly
    split
    · exact h.same
    · next e rest _ =>
      split
      · have hp := rules.placeShard k t stamp { a with early := rest } e h
        split
        · next z hz => rw [hz] at hp; exact hp
        · next b z hz => rw [hz] at hp; exact ih b hp
      · exact h.same

theorem LaneRules.placeAndDrain (k : SlotId) (t : ThreadId) (stamp : PeriodNo) (a : Assembly) (e : EarlyEntry)
    (h : s.everyLane p) : (s.placeAndDrain k t stamp a e).everyLane p := by
  have hp := rules.placeShard k t stamp a e h
  unfold State.placeAndDrain
  split
  · next z hz => rw [hz] at hp; exact hp
  · next b z hz => rw [hz] at hp; exact rules.drainEarly _ _ _ _ b hp

theorem LaneRules.startParcel (k : SlotId) (sh : DataShard) (h : s.everyLane p) : (s.startParcel k sh).everyLane p := by
  unfold State.startParcel
  dsimp only
  split
  · exact h.same
  · next u z hz =>
    have hz := h.same (State.claim_lanes hz)
    split
    · exact hz.same
    · exact rules.placeAndDrain _ _ _ _ _ hz

theorem LaneRules.takeUnbound (sh : DataShard) (h : s.everyLane p) : (s.takeUnbound sh).everyLane p := by
  unfold State.takeUnbound
  split
  · split
    · exact rules.startParcel _ sh h.same
    · split
      · exact rules.startParcel _ sh h.same
      · exact h.same
  · exact h.same

theorem LaneRules.judgeResting (k : SlotId) (x : Seq) (sh : DataShard) (h : s.everyLane p) :
    (s.judgeResting k x sh).everyLane p := by
  have hpoison : ∀ g r, (s.poison k sh.thread s.aging.periodNo [] g r).everyLane p := fun g r => h.same
  unfold State.judgeResting
  dsimp only
  split
  · split
    · exact rules.startParcel k sh h
    · exact hpoison _ _
  split
  · exact h.same
  split
  · exact hpoison _ _
  split
  · exact hpoison _ _
  split
  · exact hpoison _ _
  split
  · exact hpoison _ _
  · next hz => exact (h.same (State.claim_lanes hz)).same

theorem LaneRules.judgeAssembling (k : SlotId) (a : Assembly) (sh : DataShard) (h : s.everyLane p) :
    (s.judgeAssembling k a sh).everyLane p := by
  have hpoison : ∀ g r, (s.poison k sh.thread s.aging.periodNo a.units g r).everyLane p := fun g r => h.same
  unfold State.judgeAssembling
  dsimp only
  split
  · exact h.same
  split
  · exact hpoison _ _
  split
  · exact h.same
  split
  · split
    · split
      · exact hpoison _ _
      · next hz => exact (h.same (State.claim_lanes hz)).same
    · exact h.same
  split
  · exact hpoison _ _
  split
  · exact hpoison _ _
  split
  · exact hpoison _ _
  · next hz =>
    have hz := h.same (State.claim_lanes hz)
    split
    · exact rules.placeAndDrain _ _ _ _ _ hz
    · exact hz.same

theorem LaneRules.judgeSkipping (k : SlotId) (g : Option Tag) (sh : DataShard) (h : s.everyLane p) :
    (s.judgeSkipping k g sh).everyLane p := by
  have hend : ∀ t x, ((s.bumpDrop .skipped).endSkip k t x).everyLane p := fun t x =>
    h.same (State.restOrFree_lanes ((s.bumpDrop .skipped).signalParcelEnd t) k t _ x)
  unfold State.judgeSkipping
  split
  · split
    · exact hend _ _
    · exact h.same
  split
  · unfold State.endSkipOnF
    dsimp only
    split
    · exact rules.startParcel k sh h.same
    · exact h.same
  split
  · exact hend _ _
  · exact h.same

theorem LaneRules.takeShard (sh : DataShard) (h : s.everyLane p) : (s.takeShard sh).everyLane p := by
  unfold State.takeShard
  split
  · exact rules.takeUnbound sh h
  · dsimp only
    split
    · exact rules.takeUnbound sh h
    · exact rules.judgeResting _ _ sh h.same
    · exact rules.judgeAssembling _ _ sh h.same
    · exact rules.judgeSkipping _ _ sh h.same

/-! ### Requests -/

theorem LaneRules.doWriteSetting (r : Request) (h : s.everyLane p) : (s.doWriteSetting r).everyLane p := by
  have hdeclined : ∀ st, (s.decline r st).everyLane p := fun st => h.same
  have hquota : ∀ c v, (s.doWriteQuota r c v).everyLane p := fun c v => by
    unfold State.doWriteQuota; split <;> exact h.same
  have hwarn : ∀ c v, (s.doWriteWarn r c v).everyLane p := fun c v => by
    unfold State.doWriteWarn; split <;> exact h.same
  have hstall : ∀ n v, (s.doWriteStall r n v).everyLane p := fun n v =>
    (h.setLane (n := n) (rules.stallLimit v.toNat (h n))).same rfl
  unfold State.doWriteSetting
  dsimp only
  split
  · exact hdeclined _
  · exact hdeclined _
  · unfold State.doWriteController; split <;> exact h.same
  · unfold State.doWritePeriod; split <;> exact h.same
  · unfold State.doWriteDrainLimit; split <;> exact h.same
  · exact hquota _ _
  · exact hquota _ _
  · exact hquota _ _
  · exact hquota _ _
  · exact hwarn _ _
  · exact hwarn _ _
  · exact hwarn _ _
  · exact hwarn _ _
  · unfold State.doWriteHysteresis; split <;> exact h.same (by simp [classIds])
  · unfold State.doWriteNoticeMask; split <;> exact h.same
  · exact hstall _ _
  · exact hstall _ _
  · exact hstall _ _
  · exact hstall _ _
  · exact hdeclined _
  · exact hdeclined _

theorem LaneRules.doLane (r : Request) (h : s.everyLane p) : (s.doLane r).everyLane p := by
  unfold State.doLane
  split
  · next n _ _ => exact (h.setLane (rules.start (h n))).same (State.answerLane_lanes _ _ _ _)
  · next n _ _ => exact (h.setLane (rules.stop (h n))).same (State.answerLane_lanes _ _ _ _)
  · next n _ _ =>
    exact (h.setLane (rules.flush (h n))).same ((State.answerLane_lanes _ _ _ _).trans (s.flushLane_lanes n))
  · exact h.same

theorem LaneRules.restartTraffic (h : s.everyLane p) : s.restartTraffic.everyLane p := by
  rw [State.restartTraffic_eq]
  intro n
  exact rules.restart ((s.rebuildStore_restartedTo _ _).lanes n) (h n)

theorem LaneRules.restartFull (h : s.everyLane p) : s.restartFull.everyLane p := by
  rw [State.restartFull_eq]
  intro n
  rw [State.lane_endFull]
  exact rules.stallLimit 100 (rules.restart ((s.held.rebuildStore_restartedTo _ _).lanes n) (h n))

theorem LaneRules.doRestart (r : Request) (h : s.everyLane p) : (s.doRestart r).everyLane p := by
  unfold State.doRestart
  split
  · exact (rules.restartTraffic h).same (State.decline_lanes _ _ _)
  · exact (rules.restartFull h).same (State.decline_lanes _ _ _)
  · exact h.same

theorem LaneRules.carryOut (r : Request) (h : s.everyLane p) : (s.carryOut r).everyLane p := by
  unfold State.carryOut
  split
  · exact h.same
  · unfold State.doReadSetting; split <;> exact h.same
  · exact rules.doWriteSetting r h
  · unfold State.doReadThread; split <;> exact h.same
  · unfold State.doWriteThread
    split
    · exact h.same (State.writeThread_lanes _ _ _ _)
    · exact h.same
  · unfold State.doReadSlot; split <;> exact h.same
  · exact h.same (State.doCut_lanes _ _)
  · exact rules.doLane r h
  · exact h.same rfl
  · exact h.same (State.doDrain_lanes _ _)
  · exact h.same (State.doReadCounters_lanes _ _)
  · exact rules.doRestart r h

/-! ### The engine -/

theorem LaneRules.serve (h : s.everyLane p) : s.serve.everyLane p := by
  have htake : ∀ {v : State}, v.everyLane p → v.takeHead.everyLane p := by
    intro v hv
    unfold State.takeHead
    split
    · exact hv
    · exact rules.carryOut _ (hv.same rfl)
  unfold State.serve
  generalize s.engine.queue.length = n
  induction n generalizing s with
  | zero => exact h
  | succ n ih =>
    unfold State.takeRequests
    split
    · exact ih (htake h)
    · exact h

theorem LaneRules.arrive (r : Request) (h : s.everyLane p) : (s.arrive r).everyLane p := by
  unfold State.arrive
  split
  · exact rules.serve (h.same rfl)
  · split
    · dsimp only
      split
      · exact rules.serve h.same
      · exact h.same
    · exact h.same

theorem LaneRules.requestArrives (r : Request) (h : s.everyLane p) : (s.requestArrives r).everyLane p := by
  unfold State.requestArrives
  split
  · exact h
  · exact rules.arrive r h

theorem LaneRules.endDrain (r : Request) (st : Status) (h : s.everyLane p) : (s.endDrain r st).everyLane p :=
  rules.serve (h.same rfl)

theorem LaneRules.drainReport (h : s.everyLane p) : s.drainReport.everyLane p := by
  unfold State.drainReport
  split
  · exact h
  · split
    · exact rules.endDrain _ _ h
    · exact h

theorem LaneRules.laneReport (n : LaneId) (h : s.everyLane p) : (s.laneReport n).everyLane p := by
  unfold State.laneReport
  split
  · exact rules.drainReport h
  · exact h

/-! ### Events -/

theorem LaneRules.takeOctets (octets : List Byte) (h : s.everyLane p) : (s.takeOctets octets).everyLane p := by
  unfold State.takeOctets
  split
  · exact h
  · split
    · exact h.same
    · exact rules.arrive _ h
    · exact (rules.takeShard _ h).same (State.settleReturns_lanes _)

theorem LaneRules.takeReport (h : s.everyLane p) : s.takeReport.everyLane p := by
  unfold State.takeReport
  split
  · exact rules.drainReport (h.same rfl)
  · exact h

theorem LaneRules.takeGrant (n : LaneId) (g : Nat) (h : s.everyLane p) : (s.takeGrant n g).everyLane p := by
  unfold State.takeGrant
  dsimp only
  split
  · exact State.everyLane.setLane (s := s.bumpLane n .grantOverflow 1) h.same (rules.addCredit g (h n))
  · exact h.setLane (rules.addCredit g (h n))

theorem LaneRules.expireStall (n : LaneId) (h : s.everyLane p) : (s.expireStall n).everyLane p := by
  unfold State.expireStall
  split
  · next hw =>
    split
    · exact h
    · next hq =>
      exact rules.laneReport n ((h.setLane (rules.stallDiscard hw.1 hq (h n))).same (s.stallDiscard_lanes n _ _))
  · exact h

theorem LaneRules.endReturnShard (h : s.everyLane p) : s.endReturnShard.everyLane p := by
  have h1 := h.same (v := State.arbitrate { s with ret := { s.ret with onLink := none } })
  unfold State.endReturnShard
  dsimp only
  split
  · exact rules.serve h1
  · exact h1
  · exact h1
  · exact h1

/-- Every command keeps a property of the lanes whose rules are met. -/
theorem LaneRules.exec {i : Instr} {t : State} (hexec : exec i s = .next t) (h : s.everyLane p) : t.everyLane p := by
  have hrequest : ∀ r, Machine.exec i s = .next (s.requestArrives r) → t.everyLane p := fun r hr => by
    cases hr.symm.trans hexec
    exact rules.requestArrives r h
  cases i
  case resetnAssert =>
    cases hexec
    exact fun n => (State.lane_reset n).symm ▸ rules.reset
  case resetnRelease =>
    cases hexec
    split <;> exact h.same rfl
  case endOfStartUp =>
    cases hexec
    split
    · exact h.same (by simp [State.endStartUp])
    · exact h
  case shardArrival v =>
    cases hexec
    exact rules.takeOctets _ h
  case closeJudgement =>
    cases hexec
    split
    · exact h
    · exact rules.takeReport (h.same rfl)
  case grant n w =>
    cases hexec
    split
    · exact h
    · exact rules.takeGrant _ _ h
  case emissionEnd n =>
    cases hexec
    split
    · exact h
    · exact rules.laneReport n ((h.setLane (rules.endEmission _ (h n))).same (s.endEmission_lanes n _))
  case stallExpiry n =>
    cases hexec
    exact rules.expireStall n h
  case periodExpiry =>
    cases hexec
    unfold State.oweScan
    split
    · split
      · exact h.same rfl
      · split <;> exact h.same rfl
    · exact h
  case scanVisit =>
    cases hexec
    split
    · exact h
    · exact h.same (State.visit_lanes _ _)
  case drainTimerExpiry =>
    cases hexec
    split
    · exact rules.endDrain _ _ h
    · exact h
  case returnShardEnd =>
    cases hexec
    split
    · exact rules.endReturnShard h
    · exact h
  all_goals exact hrequest _ rfl

/-- Every step keeps a property of the lanes whose rules are met. -/
theorem LaneRules.step {t : State} (hstep : step s = .next t) (h : s.everyLane p) : t.everyLane p := by
  unfold Machine.step at hstep
  split at hstep
  · cases hstep
    exact h
  · exact rules.exec hstep (h.same rfl)

end Follow

/-! ### The lane laws (06 6.1, R108) -/

/-- A lane within its bounds and in the shape of its state. -/
structure Lane.Lawful (l : Lane) : Prop where
  room : l.queue.length ≤ Config.laneQueuePlaces
  credit : l.credit ≤ Config.creditLimit
  shape : l.shape

theorem State.everyLane_lawful_iff (s : State) : s.everyLane Lane.Lawful ↔ s.laneLaw ∧ s.laneShapes :=
  ⟨fun h => ⟨fun n => ⟨(h n).room, (h n).credit⟩, fun n => (h n).shape⟩,
    fun ⟨hlaw, hshapes⟩ n => ⟨(hlaw n).1, (hlaw n).2, hshapes n⟩⟩

/-- A head judgement without an emission leaves a lawful lane, whatever the state it was made in (06 R94). -/
theorem Lane.judgeHead_lawful {l : Lane} (b : Bool) (hroom : l.queue.length ≤ Config.laneQueuePlaces)
    (hcredit : l.credit ≤ Config.creditLimit) (he : l.emission = none) : (l.judgeHead b).Lawful := by
  obtain ⟨hqueue, hspent⟩ := l.judgeHead_bounds b
  exact ⟨hqueue.trans hroom, hspent.trans hcredit, l.judgeHead_shape b he⟩

/-- A lane operation that leaves state, emission and timer, seen from the table of 06 6.1: only IDLE and WAITING say
anything of the queue and the credit. -/
theorem Lane.shape.of_same {l l' : Lane} (h : l.shape) (hstate : l'.state = l.state) (he : l'.emission = l.emission)
    (ht : l'.stallTimer = l.stallTimer) (hidle : l.state = .idle → l'.queue = [])
    (hwaits : l.state = .waiting → ∃ d rest, l'.queue = d :: rest ∧ l'.credit < d.blocks) : l'.shape := by
  unfold Lane.shape at h ⊢
  rw [hstate, he, ht]
  cases hs : l.state <;> simp only [hs] at h ⊢
  case idle => exact ⟨hidle hs, h.2⟩
  case waiting => exact ⟨hwaits hs, h.2⟩
  all_goals exact h

namespace Lane.Lawful

variable {l : Lane} (h : l.Lawful)

include h

/-- Without a frame in flight there is no current emission (06 6.1). -/
theorem emission (hs : l.state.inFlight = false) : l.emission = none := Lane.quiet_of_shape h.shape hs

theorem append (d : Descriptor) (hroom : l.queue.length < Config.laneQueuePlaces) : (l.append d).Lawful := by
  have hlonger : (l.queue ++ [d]).length ≤ Config.laneQueuePlaces := by
    rw [List.length_append]
    exact hroom
  unfold Lane.append
  split
  · next hs =>
    exact Lane.judgeHead_lawful (l := { l with queue := l.queue ++ [d] }) false hlonger h.credit
      (h.emission (by rw [hs]; rfl))
  · next hidle =>
    refine ⟨hlonger, h.credit, h.shape.of_same rfl rfl rfl (fun hs => absurd hs hidle) fun hs => ?_⟩
    have hshape := h.shape
    simp only [Lane.shape, hs] at hshape
    obtain ⟨⟨e, rest, hq, hc⟩, -⟩ := hshape
    exact ⟨e, rest ++ [d], by rw [hq]; rfl, hc⟩

theorem addCredit (g : Nat) : (l.addCredit g).Lawful := by
  have hcredit : min (l.credit + g) Config.creditLimit ≤ Config.creditLimit := Nat.min_le_right _ _
  unfold Lane.addCredit
  split
  · next hs =>
    exact Lane.judgeHead_lawful (l := { l with credit := min (l.credit + g) Config.creditLimit }) false
      h.room hcredit (h.emission (by rw [hs]; rfl))
  · next hwaits =>
    refine ⟨h.room, hcredit, h.shape.of_same rfl rfl rfl (fun hs => ?_) fun hs => absurd hs hwaits⟩
    have hshape := h.shape
    simp only [Lane.shape, hs] at hshape
    exact hshape.1

theorem endEmission (frame : List Byte) : (l.endEmission frame).Lawful := by
  unfold Lane.endEmission
  split
  · next hs =>
    have hshape := h.shape
    simp only [Lane.shape, hs] at hshape
    exact ⟨h.room, h.credit, rfl, hshape.2⟩
  · exact Lane.judgeHead_lawful (l := { l with emission := none, lastFrame := .whole frame }) false h.room h.credit rfl

theorem stallDiscard {d : Descriptor} {rest : List Descriptor} (hs : l.state = .waiting) (hq : l.queue = d :: rest) :
    ({ l with queue := rest }.judgeHead true).Lawful := by
  have hroom := h.room
  rw [hq] at hroom
  exact Lane.judgeHead_lawful (l := { l with queue := rest }) true (Nat.le_of_succ_le hroom) h.credit
    (h.emission (by rw [hs]; rfl))

theorem start : l.start.Lawful := by
  unfold Lane.start
  split
  · next hs => exact Lane.judgeHead_lawful false h.room h.credit (h.emission (by rw [hs]; rfl))
  · exact h
  · exact h
  · exact h
  · next hs =>
    have hshape := h.shape
    simp only [Lane.shape, hs] at hshape
    exact ⟨h.room, h.credit, hshape⟩

theorem stop : l.stop.Lawful := by
  have hshape := h.shape
  unfold Lane.stop
  split
  · exact h
  · next hs =>
    simp only [Lane.shape, hs] at hshape
    exact ⟨h.room, h.credit, hshape.2⟩
  · next hs => exact ⟨h.room, h.credit, h.emission (by rw [hs]; rfl), rfl⟩
  · next hs =>
    simp only [Lane.shape, hs] at hshape
    exact ⟨h.room, h.credit, hshape⟩
  · exact h

theorem flush : l.flush.Lawful := by
  unfold Lane.flush
  split
  · next hs => exact ⟨Nat.zero_le _, h.credit, ⟨rfl, h.emission (by rw [hs]; rfl), rfl⟩⟩
  · next hwaits =>
    exact ⟨Nat.zero_le _, h.credit, h.shape.of_same rfl rfl rfl (fun _ => rfl) fun hs => absurd hs hwaits⟩

theorem stallLimit (limit : Nat) : ({ l with stallLimit := limit } : Lane).Lawful := ⟨h.room, h.credit, h.shape⟩

end Lane.Lawful

/-- A restart leaves a lane IDLE or STOPPED with nothing in it (06 R106). -/
theorem Lane.RestartedTo.lawful {l l' : Lane} {count count' : LaneCounter → BitVec 32}
    {frame : Descriptor → List Byte} (h : l.RestartedTo l' count count' frame) : l'.Lawful := by
  refine ⟨by rw [h.queue]; exact Nat.zero_le _, by rw [h.credit]; exact Nat.zero_le _, ?_⟩
  have hstate := h.state
  unfold LaneState.afterRestart at hstate
  unfold Lane.shape
  split at hstate <;> rw [hstate]
  · exact ⟨h.queue, h.emission, h.stallTimer⟩
  · exact ⟨h.emission, h.stallTimer⟩

/-- The lane laws meet the rules of every lane operation (06 R92 to R108). -/
theorem laneRules_lawful : LaneRules Lane.Lawful where
  append d hroom h := h.append d hroom
  addCredit g h := h.addCredit g
  endEmission frame h := h.endEmission frame
  stallDiscard hs hq h := h.stallDiscard hs hq
  start h := h.start
  stop h := h.stop
  flush h := h.flush
  stallLimit limit h := h.stallLimit limit
  restart hr _ := hr.lawful
  reset := ⟨Nat.zero_le _, Nat.zero_le _, by simp [Lane.shape, Lane.default]⟩

end Sys2Proof.Machine

open Sys2Proof Sys2Proof.Machine

/-- Settles O6: every operation of a Lane Controller leaves a lawful lane (`laneRules_lawful`), and no command touches a
lane but by these (`LaneRules.step`). -/
theorem stepKeepsLaneLaws : Obligations.StepKeepsLaneLaws := by
  intro s t hstep hlaw hshapes
  exact (State.everyLane_lawful_iff t).mp
    (laneRules_lawful.step hstep ((State.everyLane_lawful_iff s).mpr ⟨hlaw, hshapes⟩))

end

section
/-! SUPPORT. STARTING and the links, and grants (07 R110, 06 R92, R98). -/

namespace Sys2Proof.Machine

/-- A request row, whose octets 11 R164 lists, leaves the part in STARTING as it was (07 R110, 08 R120). -/
theorem exec_request_starting {i : Instr} {s : State} (hm : s.mode = .starting) (hi : (requestOctets i).isSome = true) :
    exec i s = .next s := by
  obtain ⟨os, hos⟩ := Option.isSome_iff_exists.mp hi
  rw [exec_request i s _ (by rw [requestPayload, hos]; rfl), State.requestArrives_starting s _ hm]

theorem State.takeOctets_starting {s : State} (hm : s.mode = .starting) (octets : List Byte) :
    s.takeOctets octets = s := if_pos hm

/-! ### Grants (06 R98) -/

theorem exec_grant {s : State} (hm : s.mode ≠ .starting) (n : LaneId) (w : BitVec 16) :
    exec (.grant n w) s = .next (s.takeGrant n (w.toNat % 4096)) := by
  show Host.Outcome.next (if s.mode = .starting then s else s.takeGrant n (grantBlocks w)) = _
  rw [if_neg hm, grantBlocks_eq]

/-- A grant counts blocks lost, and writes nothing else but its lane (06 R98). -/
theorem State.takeGrant_eq (s : State) (n : LaneId) (g : Nat) : s.takeGrant n g =
    (if Config.creditLimit < (s.lane n).credit + g then s.bumpLane n .grantOverflow 1 else s).setLane n
      ((s.lane n).addCredit g) := by
  unfold State.takeGrant
  dsimp only
  by_cases hlost : Config.creditLimit < (s.lane n).credit + g
  · rw [if_pos hlost]
    rfl
  · rw [if_neg hlost]

/-- A lane not WAITING only takes the credit (06 R98). -/
theorem Lane.addCredit_keeps {l : Lane} (g : Nat) (hs : l.state ≠ .waiting) :
    l.addCredit g = { l with credit := min (l.credit + g) 4095 } := if_neg hs

/-- A WAITING lane goes on waiting while the credit does not reach the head's blocks (06 R94, R98). -/
theorem Lane.addCredit_waits {l : Lane} (g : Nat) {d : Descriptor} {rest : List Descriptor} (hs : l.state = .waiting)
    (hq : l.queue = d :: rest) (hc : min (l.credit + g) 4095 < d.blocks) :
    l.addCredit g = { l with credit := min (l.credit + g) 4095 } :=
  (if_pos hs).trans (Lane.judgeHead_stays _ d rest hq hc hs)

/-- A WAITING lane starts its head once the credit reaches its blocks (06 R95, R98). -/
theorem Lane.addCredit_starts {l : Lane} (g : Nat) {d : Descriptor} {rest : List Descriptor} (hs : l.state = .waiting)
    (hq : l.queue = d :: rest) (hc : d.blocks ≤ min (l.credit + g) 4095) :
    l.addCredit g = { l with credit := min (l.credit + g) 4095 }.startEmission d rest :=
  (if_pos hs).trans (Lane.judgeHead_starts _ false d rest hq hc)

/-- A grant of no blocks leaves a lane within its bounds as it is: a WAITING lane's credit does not reach its head. -/
theorem Lane.addCredit_zero {l : Lane} (hc : l.credit ≤ 4095) (h : l.shape) : l.addCredit 0 = l := by
  have hcredit : min (l.credit + 0) 4095 = l.credit := Nat.min_eq_left hc
  by_cases hs : l.state = .waiting
  · simp only [Lane.shape, hs] at h
    obtain ⟨⟨d, rest, hq, hshort⟩, -⟩ := h
    rw [Lane.addCredit_waits 0 hs hq (by rwa [hcredit]), hcredit]
  · rw [Lane.addCredit_keeps 0 hs, hcredit]

end Sys2Proof.Machine

open Sys2Proof Sys2Proof.Machine

/-- Settles O16: the gate, the grants and the management queue each stand behind the mode. -/
theorem startingTakesNothingFromTheLinks : Obligations.StartingTakesNothingFromTheLinks := by
  intro s hm
  refine ⟨fun v => ?_, fun n w => ?_, fun i => exec_request_starting hm⟩
  · exact congrArg _ (State.takeOctets_starting hm v.toList)
  · exact congrArg _ (if_pos hm)

/-- Settles O38: the counter by the blocks lost, the lane by `Lane.addCredit_keeps` and its companions. -/
theorem grantAddsToTheCredit : Obligations.GrantAddsToTheCredit := by
  intro s n w hm hc hshape g sum credit counted
  have hgrant : exec (.grant n w) s = .next (counted.setLane n ((s.lane n).addCredit g)) := by
    rw [exec_grant hm, State.takeGrant_eq]
    rfl
  refine ⟨fun hs => ?_, fun d rest hs hq => ⟨fun hlow => ?_, fun henough => ?_⟩, fun hg => ?_⟩
  · rw [hgrant, Lane.addCredit_keeps g hs]
  · rw [hgrant, Lane.addCredit_waits g hs hq hlow]
  · rw [hgrant, Lane.addCredit_starts g hs hq henough]
    rfl
  · have hcounted : counted = s := if_neg (by show ¬ 4095 < (s.lane n).credit + g; omega)
    rw [hgrant, hcounted, hg, Lane.addCredit_zero hc hshape, State.setLane_lane]

end

section
/-! SUPPORT. The operations of a lane that return units: the end of an emission, the stall discard and LANE FLUSH, what each writes and leaves, and the lane's report behind the first two (06 R97, R100, R104, R109, 08 R134 to R136). -/

namespace Sys2Proof.Machine

/-! ### What they write and leave -/

/-- Seen from `s`, the state `z` after an operation of lane `n` that returns units: the lane is `l`, the units stand at the
tail of the free list, and no other lane, slot, thread, octet, nor the period, the mode or the engine has changed. -/
structure State.LaneReturnedTo (s z : State) (n : LaneId) (l : Lane) (units : List UnitNo) : Prop where
  lanes : z.lanes = (s.setLane n l).lanes
  freeList : z.store.freeList = s.store.freeList ++ units
  slots : z.slots = s.slots
  threads : z.threads = s.threads
  octets : z.store.octets = s.store.octets
  aging : z.aging = s.aging
  mode : z.mode = s.mode
  engine : z.engine = s.engine

namespace State.LaneReturnedTo

variable {s z : State} {n : LaneId} {l : Lane} {units : List UnitNo} (h : s.LaneReturnedTo z n l units)

include h

theorem lane : z.lane n = l := (State.lane_congr _ z n h.lanes).trans (State.lane_setLane_self s n l)

theorem other {m : LaneId} (hm : m ≠ n) : z.lane m = s.lane m :=
  (State.lane_congr _ z m h.lanes).trans (State.lane_setLane_ne s n m l hm)

end State.LaneReturnedTo

theorem State.endEmission_returnedTo (s : State) (n : LaneId) (d : Descriptor) :
    s.LaneReturnedTo (s.endEmission n d) n ((s.lane n).endEmission (s.frameOctets d)) d.units where
  lanes := s.endEmission_lanes n d
  freeList := by simp [State.endEmission]
  slots := by simp [State.endEmission]
  threads := by simp [State.endEmission]
  octets := by simp [State.endEmission]
  aging := by simp [State.endEmission]
  mode := by simp [State.endEmission]
  engine := by simp [State.endEmission]

theorem State.stallDiscard_returnedTo (s : State) (n : LaneId) (d : Descriptor) (rest : List Descriptor) :
    s.LaneReturnedTo (s.stallDiscard n d rest) n ({ s.lane n with queue := rest }.judgeHead true) d.units where
  lanes := s.stallDiscard_lanes n d rest
  freeList := by simp [State.stallDiscard]
  slots := by simp [State.stallDiscard]
  threads := by simp [State.stallDiscard]
  octets := by simp [State.stallDiscard]
  aging := by simp [State.stallDiscard]
  mode := by simp [State.stallDiscard]
  engine := by simp [State.stallDiscard]

/-- The queue of a lane returned, descriptor by descriptor, to the state in which the lane is flushed (06 R104). -/
def State.flushed (s : State) (n : LaneId) : State :=
  (s.lane n).queue.foldl (fun t d => t.returnChain d.units) (s.setLane n (s.lane n).flush)

theorem State.flushed_returnedTo (s : State) (n : LaneId) :
    s.LaneReturnedTo (s.flushed n) n (s.lane n).flush ((s.lane n).queue.flatMap Descriptor.units) := by
  obtain ⟨hslots, hthreads, hlanes, hoctets, haging, hmode, hengine, -⟩ :=
    State.foldl_returnChain_frame (s.lane n).queue (s.setLane n (s.lane n).flush)
  exact ⟨hlanes, State.foldl_returnChain_freeList _ _, hslots, hthreads, hoctets, haging, hmode, hengine⟩

theorem State.flushed_ret (s : State) (n : LaneId) : (s.flushed n).ret = s.ret := by
  obtain ⟨-, -, -, -, -, -, -, hret, -⟩ :=
    State.foldl_returnChain_frame (s.lane n).queue (s.setLane n (s.lane n).flush)
  exact hret

theorem State.laneCounter_flushed (s : State) (n m : LaneId) (c : LaneCounter) :
    (s.flushed n).laneCounter m c = s.laneCounter m c := by
  obtain ⟨-, -, -, -, -, -, -, -, hcounters, -⟩ :=
    State.foldl_returnChain_frame (s.lane n).queue (s.setLane n (s.lane n).flush)
  exact State.laneCounter_congr s _ m c hcounters

/-- Of an empty queue nothing is raised or counted (06 R104). -/
theorem State.flushLane_empty {s : State} {n : LaneId} (h : (s.lane n).queue = []) :
    s.flushLane n = (s.flushed n).settleReturns := by
  unfold State.flushLane
  dsimp only
  rw [if_pos h]
  rfl

theorem State.flushLane_nonempty {s : State} {n : LaneId} (h : (s.lane n).queue ≠ []) : s.flushLane n =
    (((s.flushed n).raise .flushed none none (some n) (some (BitVec.ofNat 16 (s.lane n).queue.length))).bumpLane n .flushed
      (s.lane n).queue.length).settleReturns := by
  unfold State.flushLane
  dsimp only
  rw [if_neg h]
  rfl

theorem State.flushLane_returnedTo (s : State) (n : LaneId) :
    s.LaneReturnedTo (s.flushLane n) n (s.lane n).flush ((s.lane n).queue.flatMap Descriptor.units) := by
  obtain ⟨hlanes, hfree, hslots, hthreads, hoctets, haging, hmode, hengine⟩ := s.flushed_returnedTo n
  by_cases hq : (s.lane n).queue = []
  · rw [State.flushLane_empty hq]
    exact ⟨by simp [hlanes], by simp [hfree], by simp [hslots], by simp [hthreads], by simp [hoctets], by simp [haging],
      by simp [hmode], by simp [hengine]⟩
  · rw [State.flushLane_nonempty hq]
    exact ⟨by simp [hlanes], by simp [hfree], by simp [hslots], by simp [hthreads], by simp [hoctets], by simp [haging],
      by simp [hmode], by simp [hengine]⟩

/-! ### Counters and notices -/

theorem State.laneCounter_endEmission (s : State) (n : LaneId) (d : Descriptor) :
    (s.endEmission n d).laneCounter n .emitted = s.laneCounter n .emitted + 1 := by
  simp [State.endEmission]

theorem State.laneCounter_stallDiscard (s : State) (n : LaneId) (d : Descriptor) (rest : List Descriptor) :
    (s.stallDiscard n d rest).laneCounter n .stalled = s.laneCounter n .stalled + 1 := by
  simp [State.stallDiscard]

theorem State.laneCounter_flushLane (s : State) (n : LaneId) : (s.flushLane n).laneCounter n .flushed =
    s.laneCounter n .flushed + BitVec.ofNat 32 (s.lane n).queue.length := by
  by_cases hq : (s.lane n).queue = []
  · rw [State.flushLane_empty hq]
    simp [hq, State.laneCounter_flushed]
  · rw [State.flushLane_nonempty hq]
    simp [State.laneCounter_flushed]

/-- The end of an emission raises no notice, so it loses none (06 R97). -/
theorem State.endEmission_lostNotices (s : State) (n : LaneId) (d : Descriptor) :
    (s.endEmission n d).ret.lostNotices = s.ret.lostNotices := by
  unfold State.endEmission
  dsimp only
  rw [(State.settleReturns_undisturbed _).lost]
  simp

/-- On a busy link with room in the notice queue, a notice raised stands at its tail after the judgements of R73
(10 R156, R157). -/
theorem State.settleReturns_raise_notices {s v : State} {kind : NoticeKind} {t : Option ThreadId} {g : Option Tag}
    {n : Option LaneId} {c : Option (BitVec 16)} (hv : v.ret = (s.raise kind t g n c).ret)
    (hm : s.ret.noticeMask.getLsbD kind.code = true) (hl : s.ret.notices.length < 16)
    (hb : s.ret.onLink.isSome = true) :
    v.settleReturns.ret.notices = s.ret.notices ++ [⟨kind, t, g, n, c, s.aging.periodNo, s.ret.lostNotices⟩] := by
  have hraised := State.raise_busy s kind t g n c hb hm hl
  have hbusy : v.ret.onLink.isSome = true := by
    rw [hv, State.raise_onLink s kind t g n c hb]
    exact hb
  obtain ⟨hnotices, -⟩ := (State.settleReturns_undisturbed v).busy hbusy
  rw [hnotices, hv, hraised]

theorem State.stallDiscard_notices {s : State} (n : LaneId) (d : Descriptor) (rest : List Descriptor)
    (hm : s.ret.noticeMask.getLsbD 12 = true) (hl : s.ret.notices.length < 16) (hb : s.ret.onLink.isSome = true) :
    (s.stallDiscard n d rest).ret.notices = s.ret.notices ++ [⟨.stalled, some d.thread, some d.tag, some n,
      some (s.aging.periodNo - d.completionPeriod), s.aging.periodNo, s.ret.lostNotices⟩] := by
  have hret : ((s.setLane n { s.lane n with queue := rest }).returnChain d.units).ret = s.ret := State.returnChain_ret _ _
  have haging : ((s.setLane n { s.lane n with queue := rest }).returnChain d.units).aging = s.aging :=
    State.returnChain_aging _ _
  unfold State.stallDiscard
  dsimp only
  rw [State.settleReturns_raise_notices ((State.setLane_ret _ _ _).trans (State.bumpLane_ret _ _ _ _)) (by rwa [hret])
    (by rwa [hret]) (by rwa [hret]), hret, haging]

theorem State.flushLane_notices {s : State} {n : LaneId} (hq : (s.lane n).queue ≠ [])
    (hm : s.ret.noticeMask.getLsbD 13 = true) (hl : s.ret.notices.length < 16) (hb : s.ret.onLink.isSome = true) :
    (s.flushLane n).ret.notices = s.ret.notices ++ [⟨.flushed, none, none, some n,
      some (BitVec.ofNat 16 (s.lane n).queue.length), s.aging.periodNo, s.ret.lostNotices⟩] := by
  have hret := s.flushed_ret n
  rw [State.flushLane_nonempty hq, State.settleReturns_raise_notices (State.bumpLane_ret _ _ _ _) (by rwa [hret])
    (by rwa [hret]) (by rwa [hret]), hret, (s.flushed_returnedTo n).aging]

/-! ### A lane's report that ends no DRAIN (06 R109, 08 R134) -/

/-- A head that is judged stays in the queue or is sent (06 R94). -/
theorem Lane.judgeHead_occupied {l : Lane} (b : Bool) (h : l.queue ≠ []) :
    (l.judgeHead b).queue ≠ [] ∨ (l.judgeHead b).state = .sending := by
  obtain ⟨d, rest, hq⟩ := List.exists_cons_of_ne_nil h
  by_cases hc : d.blocks ≤ l.credit
  · exact .inr (by rw [Lane.judgeHead_starts l b d rest hq hc]; rfl)
  · left
    unfold Lane.judgeHead
    rw [hq]
    dsimp only
    rw [if_neg hc]
    split <;> exact h

theorem Lane.endEmission_occupied {l : Lane} (frame : List Byte) (h : l.queue ≠ []) :
    (l.endEmission frame).queue ≠ [] ∨ (l.endEmission frame).state = .sending := by
  unfold Lane.endEmission
  split
  · exact .inl h
  · exact Lane.judgeHead_occupied (l := { l with emission := none, lastFrame := .whole frame }) false h

/-- The report of lane `n` changes nothing while no DRAIN is in progress, the mode is not CLOSED, or some lane, this one
or another, still holds a descriptor (06 R109, 08 R134). -/
theorem State.LaneReturnedTo.laneReport_stays {s z : State} {n : LaneId} {l : Lane} {units : List UnitNo}
    (h : s.LaneReturnedTo z n l units)
    (hopen : s.engine.inProgress = none ∨ s.mode ≠ .closed ∨ (l.queue ≠ [] ∨ l.state = .sending) ∨
      ∃ m, m ≠ n ∧ ((s.lane m).queue ≠ [] ∨ (s.lane m).state = .sending ∨ (s.lane m).state = .stopping)) :
    z.laneReport n = z := by
  refine State.laneReport_stays z n ?_
  rw [h.engine]
  refine hopen.imp_right fun hopen => Bool.eq_false_iff.mpr fun hdrain => ?_
  obtain ⟨hclosed, hrest⟩ := z.drainCondition_iff.mp hdrain
  rcases hopen with hm | hl | ⟨m, hm, hheld⟩
  · exact hm (h.mode ▸ hclosed)
  · obtain ⟨hq, hsend, -⟩ := hrest n
    rw [h.lane] at hq hsend
    exact hl.elim (· hq) hsend
  · obtain ⟨hq, hsend, hstop⟩ := hrest m
    rw [h.other hm] at hq hsend hstop
    exact hheld.elim (· hq) (·.elim hsend hstop)

/-! ### The end of a DRAIN (08 R134 to R136) -/

/-- The end of a DRAIN with no request waiting: the reply with the counts as they stand, and the engine READY. -/
theorem State.endDrain_eq {s : State} (r : Request) (st : Status) (hq : s.engine.queue = []) : s.endDrain r st =
    { s with engine := { s.engine with inProgress := none, reserved := false, drainTimer := none } }.queueReply
      ⟨r.number, r.code, st, s.drainResult⟩ := by
  unfold State.endDrain
  rw [State.serve_idle]
  · rfl
  · simp [State.canTake, State.answer, hq]

/-- The descriptors of the lanes, lane by lane (08 R135). -/
theorem State.laneDescriptors_eq (s : State) :
    let held := fun n : LaneId => (s.lane n).queue.length + if (s.lane n).emission = none then 0 else 1
    s.laneDescriptors = held 0 + held 1 + held 2 + held 3 := by
  have hemission : ∀ o : Option Descriptor, (if o.isSome = true then 1 else 0) = if o = none then 0 else 1 := by
    intro o
    cases o <;> rfl
  simp only [State.laneDescriptors, laneIds, hemission, List.map_cons, List.map_nil, List.sum_cons, List.sum_nil]
  omega

theorem Lane.settled_iff (l : Lane) : l.settled = true ↔ l.queue = [] ∧ l.state ≠ .sending ∧ l.state ≠ .stopping := by
  cases h : l.state <;> simp [Lane.settled, LaneState.inFlight, h]

/-- A lane that holds nothing (08 R134, R135). -/
structure Lane.HoldsNothing (l : Lane) : Prop where
  queue : l.queue = []
  sending : l.state ≠ .sending
  stopping : l.state ≠ .stopping
  emission : l.emission = none

/-- A lane without an emission that judges an empty queue is IDLE with nothing in it (06 R94). -/
theorem Lane.judgeHead_holdsNothing {l : Lane} (b : Bool) (hq : l.queue = []) (he : l.emission = none) :
    (l.judgeHead b).HoldsNothing := by
  rw [Lane.judgeHead_empty l b hq]
  exact ⟨hq, nofun, nofun, he⟩

theorem Lane.endEmission_holdsNothing {l : Lane} (frame : List Byte) (hq : l.queue = []) :
    (l.endEmission frame).HoldsNothing := by
  unfold Lane.endEmission
  split
  · exact ⟨hq, nofun, nofun, rfl⟩
  · exact Lane.judgeHead_holdsNothing (l := { l with emission := none, lastFrame := .whole frame }) false hq rfl

/-- With no lane holding anything in CLOSED, a lane's report ends the DRAIN in progress with DONE (06 R109, 08 R135). -/
theorem State.laneReport_ends {z : State} {r : Request} (n : LaneId) (hp : z.engine.inProgress = some r)
    (hq : z.engine.queue = []) (hm : z.mode = .closed) (hb : z.busySlots = 0) (hl : ∀ m, (z.lane m).HoldsNothing) :
    z.laneReport n =
      { z with engine := { z.engine with inProgress := none, reserved := false, drainTimer := none } }.queueReply
        ⟨r.number, r.code, .done, .drain .closed 0 0⟩ := by
  have hrest : ∀ m, (z.lane m).queue = [] ∧ (z.lane m).state ≠ .sending ∧ (z.lane m).state ≠ .stopping := fun m =>
    ⟨(hl m).queue, (hl m).sending, (hl m).stopping⟩
  have hresult : z.drainResult = .drain .closed 0 0 := by
    have hnone : ∀ m, (z.lane m).queue = [] ∧ (z.lane m).emission = none := fun m =>
      ⟨(hl m).queue, (hl m).emission⟩
    rw [State.drainResult, hm, hb, State.laneDescriptors_eq]
    simp [hnone]
  unfold State.laneReport State.drainReport
  rw [if_pos ((Lane.settled_iff _).mpr (hrest n)), hp]
  dsimp only
  rw [if_pos (z.drainCondition_iff.mpr ⟨hm, hrest⟩), State.endDrain_eq r .done hq, hresult]

/-! ### The events -/

theorem exec_emissionEnd_none {s : State} {n : LaneId} (h : (s.lane n).emission = none) :
    exec (.emissionEnd n) s = .next s := by
  simp only [exec, execEmissionEnd, h]

theorem exec_emissionEnd_some {s : State} {n : LaneId} {d : Descriptor} (h : (s.lane n).emission = some d) :
    exec (.emissionEnd n) s = .next ((s.endEmission n d).laneReport n) := by
  simp only [exec, execEmissionEnd, h]

theorem exec_stallExpiry_stopped {s : State} {n : LaneId}
    (h : (s.lane n).state ≠ .waiting ∨ (s.lane n).stallTimer = none) : exec (.stallExpiry n) s = .next s :=
  congrArg _ (if_neg fun ⟨hs, ht⟩ => h.elim (· hs) fun hnone => by simp [hnone] at ht)

theorem exec_stallExpiry_discards {s : State} {n : LaneId} {d : Descriptor} {rest : List Descriptor}
    (hs : (s.lane n).state = .waiting) (ht : (s.lane n).stallTimer.isSome = true) (hq : (s.lane n).queue = d :: rest) :
    exec (.stallExpiry n) s = .next ((s.stallDiscard n d rest).laneReport n) := by
  refine congrArg Host.Outcome.next ?_
  unfold State.expireStall
  rw [if_pos ⟨hs, ht⟩, hq]

end Sys2Proof.Machine

open Sys2Proof Sys2Proof.Machine

/-- Settles O39: the lane and the units by `State.endEmission_returnedTo`, the next head by the rows of the head judgement;
a lane that had a descriptor queued has it still, or sends it, so the report ends no DRAIN. -/
theorem emissionEndReturnsTheUnits : Obligations.EmissionEndReturnsTheUnits := by
  refine ⟨fun s n => exec_emissionEnd_none, ?_⟩
  intro s n d _ hopen he l thread length frame ended
  have hz := s.endEmission_returnedTo n d
  have hexec : exec (.emissionEnd n) s = .next (s.endEmission n d) := by
    rw [exec_emissionEnd_some he, hz.laneReport_stays]
    exact hopen.imp_right (.imp_right (.imp_left (Lane.endEmission_occupied _)))
  have hstopped : l.state = .stopping → l.endEmission frame = { ended with state := .stopped } := fun hs => if_pos hs
  have hjudged : l.state = .sending → l.endEmission frame = ended.judgeHead false := fun hs =>
    if_neg (by rw [hs]; decide)
  refine ⟨_, hexec, hz.freeList, s.laneCounter_endEmission n d, fun hs => hz.lane.trans (hstopped hs), fun hs hq => ?_,
    fun e rest hs hq => ⟨fun henough => ?_, fun hlow => ?_⟩, fun m => hz.other, hz.slots, hz.threads, hz.octets, hz.aging,
    hz.mode, hz.engine, s.endEmission_lostNotices n d, by simp [State.endEmission]⟩
  · exact hz.lane.trans ((hjudged hs).trans (Lane.judgeHead_empty ended false hq))
  · refine hz.lane.trans ((hjudged hs).trans ((Lane.judgeHead_starts ended false e rest hq henough).trans ?_))
    show _ = ({ ended with
      credit := l.credit - e.blocks, queue := rest, emission := some e, stallTimer := none } : Lane)
    rw [Lane.startEmission, ← show ended.state = .sending from hs]
  · exact hz.lane.trans ((hjudged hs).trans
      (Lane.judgeHead_waits ended false e rest hq hlow (.inl (by rw [show ended.state = .sending from hs]; decide))))

/-- Settles O40: as for O39, by `State.stallDiscard_returnedTo` and the rows of the head judgement. -/
theorem stallExpiryDiscardsTheHead : Obligations.StallExpiryDiscardsTheHead := by
  refine ⟨fun s n => exec_stallExpiry_stopped, ?_⟩
  intro s n d rest _ hopen hs ht hq l
  have hz := s.stallDiscard_returnedTo n d rest
  let left : Lane := { l with queue := rest }
  have hexec : exec (.stallExpiry n) s = .next (s.stallDiscard n d rest) := by
    rw [exec_stallExpiry_discards hs ht hq, hz.laneReport_stays]
    exact hopen.imp_right (.imp_right (.imp_left (Lane.judgeHead_occupied (l := left) true)))
  refine ⟨_, hexec, hz.freeList, s.laneCounter_stallDiscard n d rest, fun hnil => ?_,
    fun e more hrest => ⟨fun henough => ?_, fun hlow => ?_⟩, State.stallDiscard_notices n d rest, fun m => hz.other,
    hz.slots, hz.threads, hz.octets, hz.aging, hz.mode, hz.engine⟩
  · rw [hz.lane, Lane.judgeHead_empty left true hnil, ← hnil]
  · exact hz.lane.trans (Lane.judgeHead_starts left true e more hrest henough)
  · rw [hz.lane, Lane.judgeHead_waits left true e more hrest hlow (.inr rfl), Lane.wait,
      ← show left.state = .waiting from hs]

/-- Settles O47: the timer ends the DRAIN as `State.endDrain_eq` has it; an emission end or a stall discard that leaves no
lane holding anything ends it by the lane's report (`State.laneReport_ends`). -/
theorem drainEndsAtItsTimerOrTheLastLane : Obligations.DrainEndsAtItsTimerOrTheLastLane := by
  refine ⟨?_, ?_, ?_⟩
  · intro s h
    unfold exec execDrainTimerExpiry
    rcases h with h | h
    · rw [h]
    · rw [h]
      cases s.engine.inProgress <;> rfl
  · intro s r hp ht hq held
    obtain ⟨limit, hlimit⟩ := Option.isSome_iff_exists.mp ht
    simp only [exec, execDrainTimerExpiry, hp, hlimit]
    rw [State.endDrain_eq r .timeout hq, State.drainResult, State.laneDescriptors_eq]
  · intro s r n d hp hq hm hb hothers done
    have hends : ∀ {i : Instr} {z : State} {l : Lane}, exec i s = .next (z.laneReport n) →
        s.LaneReturnedTo z n l d.units → l.HoldsNothing → done i := by
      intro i z l hexec hz hl
      have hnothing : ∀ m, (z.lane m).HoldsNothing := fun m => by
        by_cases hmn : m = n
        · rw [hmn, hz.lane]
          exact hl
        · rw [hz.other hmn]
          obtain ⟨hempty, hsend, hstop, hnone⟩ := hothers m hmn
          exact ⟨hempty, hsend, hstop, hnone⟩
      have hreport := State.laneReport_ends n (hz.engine ▸ hp) (hz.engine ▸ hq) (hz.mode.trans hm)
        ((State.busySlots_congr s z hz.slots).trans hb) hnothing
      refine ⟨{ z with engine := { z.engine with inProgress := none, reserved := false, drainTimer := none } },
        by rw [hexec, hreport], ?_, hz.mode.trans hm, hz.freeList, (hnothing n).queue, (hnothing n).emission⟩
      show ({ z.engine with inProgress := none, reserved := false, drainTimer := none } : Engine) = _
      rw [hz.engine]
    refine ⟨fun he hempty => ?_, fun hs ht he hlast => ?_⟩
    · exact hends (exec_emissionEnd_some he) (s.endEmission_returnedTo n d) (Lane.endEmission_holdsNothing _ hempty)
    · exact hends (exec_stallExpiry_discards hs ht hlast) (s.stallDiscard_returnedTo n d [])
        (Lane.judgeHead_holdsNothing (l := { s.lane n with queue := [] }) true rfl he)

end

section
/-! SUPPORT. LANE START, LANE STOP and LANE FLUSH as a ready engine carries them out (06 R102 to R104, 08 R131). -/

namespace Sys2Proof.Machine

/-! ### The request (11 R164) -/

/-- The LANE request with a lane number and an action. -/
def laneRequest (num : BitVec 16) (b action : Byte) : Request := requestWith num 0x07 [b, action]

theorem State.carryOut_lane (s : State) (num : BitVec 16) (b action : Byte) :
    s.carryOut (laneRequest num b action) = s.doLane (laneRequest num b action) := rfl

theorem laneRequest_octets (num : BitVec 16) (b action : Byte) :
    (laneRequest num b action).octet 3 = b ∧ (laneRequest num b action).octet 4 = action := ⟨rfl, rfl⟩

theorem fourOperand_ofNat (n : Fin 4) : fourOperand (BitVec.ofNat 8 n.val) = some n := by
  fin_cases n <;> rfl

theorem fourOperand_none {b : Byte} (h : 4 ≤ b.toNat) : fourOperand b = none := dif_neg (Nat.not_lt.mpr h)

/-! ### The reply of a ready engine (08 R131) -/

section Ready

variable {s : State} (h : s.ready) (num : BitVec 16)

include h

/-- A lane number outside 0 to 3 gets RANGE, whatever the action. -/
theorem State.requestArrives_lane_range {b : Byte} (hb : 4 ≤ b.toNat) (action : Byte) :
    s.requestArrives (laneRequest num b action) = s.queueReply ⟨num, 0x07, .range, .empty⟩ := by
  rw [State.requestArrives_ready s _ h, State.carryOut_lane]
  unfold State.doLane
  rw [(laneRequest_octets num b action).1, fourOperand_none hb]
  exact State.answer_ready s s _ _ _ h rfl

/-- The reply shows lane `n` as the action's effect `t` leaves it. -/
theorem State.answerLane_ready {t : State} (ht : t.engine = s.engine) {n : LaneId} {l : Lane} (hl : t.lane n = l)
    (b action : Byte) (flushed : Nat) :
    (t.withEngine s.reserving.engine).answerLane (laneRequest num b action) n flushed =
      t.queueReply ⟨num, 0x07, .done, .lane l.state l.queue.length l.credit flushed⟩ := by
  have hlane : (t.withEngine s.reserving.engine).lane n = l := hl
  unfold State.answerLane
  rw [hlane]
  exact State.answer_ready s t _ _ _ h ht

/-- A write of the lane, answered with the lane as written. -/
theorem State.answerLane_written (n : LaneId) (l : Lane) (b action : Byte) :
    (s.reserving.setLane n l).answerLane (laneRequest num b action) n 0 =
      (s.setLane n l).queueReply ⟨num, 0x07, .done, .lane l.state l.queue.length l.credit 0⟩ :=
  State.answerLane_ready h num (t := s.setLane n l) rfl (State.lane_setLane_self s n l) b action 0

theorem exec_laneStart_ready (n : LaneId) :
    let l := (s.lane n).start
    exec (.laneStart num (BitVec.ofNat 8 n.val)) s = .next
      ((s.setLane n l).queueReply ⟨num, 0x07, .done, .lane l.state l.queue.length l.credit 0⟩) := by
  refine congrArg Host.Outcome.next ?_
  show s.requestArrives (laneRequest num (BitVec.ofNat 8 n.val) 0) = _
  rw [State.requestArrives_ready s _ h, State.carryOut_lane]
  unfold State.doLane
  rw [(laneRequest_octets num _ 0).1, (laneRequest_octets num _ 0).2, fourOperand_ofNat]
  exact State.answerLane_written h num n _ _ 0

theorem exec_laneStop_ready (n : LaneId) :
    let l := (s.lane n).stop
    exec (.laneStop num (BitVec.ofNat 8 n.val)) s = .next
      ((s.setLane n l).queueReply ⟨num, 0x07, .done, .lane l.state l.queue.length l.credit 0⟩) := by
  refine congrArg Host.Outcome.next ?_
  show s.requestArrives (laneRequest num (BitVec.ofNat 8 n.val) 1) = _
  rw [State.requestArrives_ready s _ h, State.carryOut_lane]
  unfold State.doLane
  rw [(laneRequest_octets num _ 1).1, (laneRequest_octets num _ 1).2, fourOperand_ofNat]
  exact State.answerLane_written h num n _ _ 1

theorem exec_laneFlush_ready (n : LaneId) :
    let l := (s.lane n).flush
    exec (.laneFlush num (BitVec.ofNat 8 n.val)) s = .next ((s.flushLane n).queueReply
      ⟨num, 0x07, .done, .lane l.state l.queue.length l.credit (s.lane n).queue.length⟩) := by
  refine congrArg Host.Outcome.next ?_
  show s.requestArrives (laneRequest num (BitVec.ofNat 8 n.val) 2) = _
  rw [State.requestArrives_ready s _ h, State.carryOut_lane]
  unfold State.doLane
  rw [(laneRequest_octets num _ 2).1, (laneRequest_octets num _ 2).2, fourOperand_ofNat]
  have hflush := s.flushLane_withEngine s.reserving.engine n
  exact (congrArg (fun v : State => v.answerLane (laneRequest num (BitVec.ofNat 8 n.val) 2) n (s.lane n).queue.length)
    hflush).trans (State.answerLane_ready h num (s.flushLane_engine n) (s.flushLane_returnedTo n).lane _ 2 _)

end Ready

/-! ### The actions by the state of the lane (06 R102 to R104) -/

theorem Lane.start_stays {l : Lane} (hs : l.state = .idle ∨ l.state = .waiting ∨ l.state = .sending) : l.start = l := by
  unfold Lane.start
  rcases hs with hs | hs | hs <;> rw [hs]

theorem Lane.start_stopping {l : Lane} (hs : l.state = .stopping) : l.start = { l with state := .sending } := by
  unfold Lane.start
  rw [hs]

theorem Lane.start_stopped {l : Lane} (hs : l.state = .stopped) : l.start = l.judgeHead false := by
  unfold Lane.start
  rw [hs]

theorem Lane.stop_stays {l : Lane} (hs : l.state = .stopped ∨ l.state = .stopping) : l.stop = l := by
  unfold Lane.stop
  rcases hs with hs | hs <;> rw [hs]

theorem Lane.stop_idle {l : Lane} (hs : l.state = .idle) : l.stop = { l with state := .stopped } := by
  unfold Lane.stop
  rw [hs]

theorem Lane.stop_waiting {l : Lane} (hs : l.state = .waiting) :
    l.stop = { l with state := .stopped, stallTimer := none } := by
  unfold Lane.stop
  rw [hs]

theorem Lane.stop_sending {l : Lane} (hs : l.state = .sending) : l.stop = { l with state := .stopping } := by
  unfold Lane.stop
  rw [hs]

theorem Lane.flush_eq (l : Lane) : l.flush = { l with
    queue := [], state := if l.state = .waiting then .idle else l.state,
    stallTimer := if l.state = .waiting then none else l.stallTimer } := by
  unfold Lane.flush
  split <;> rfl

/-- A flush of an empty queue changes nothing of a part without judgements owed, unless the lane waits (06 R104). -/
theorem State.flushLane_nothing {s : State} {n : LaneId} (h : s.settled) (hq : (s.lane n).queue = [])
    (hs : (s.lane n).state ≠ .waiting) : s.flushLane n = s := by
  have hlane : (s.lane n).flush = s.lane n := by
    rw [Lane.flush_eq, if_neg hs, if_neg hs, ← hq]
  rw [State.flushLane_empty hq, State.flushed, hq, hlane, State.setLane_lane]
  exact State.settleReturns_of_owed s h

end Sys2Proof.Machine

open Sys2Proof Sys2Proof.Machine

/-- Settles O41: a ready engine replies with the lane after the action (`exec_laneStart_ready`, `exec_laneStop_ready`),
which goes by the lane's state; from STOPPED, START judges the head. -/
theorem laneStartAndStopActByState : Obligations.LaneStartAndStopActByState := by
  intro s num h
  refine ⟨?_, ?_⟩
  · intro n b l answered
    have hstart : ∀ {m : Lane}, l.start = m → exec (.laneStart num b) s = answered m := fun hm =>
      hm ▸ exec_laneStart_ready h num n
    have hstop : ∀ {m : Lane}, l.stop = m → exec (.laneStop num b) s = answered m := fun hm =>
      hm ▸ exec_laneStop_ready h num n
    refine ⟨fun hs => hstart (Lane.start_stays hs), fun hs => hstart (Lane.start_stopping hs), fun hs hq => ?_,
      fun d rest hs hq => ⟨fun henough => ?_, fun hlow => ?_⟩, fun hs => hstop (Lane.stop_idle hs),
      fun hs => hstop (Lane.stop_waiting hs), fun hs => hstop (Lane.stop_sending hs),
      fun hs => hstop (Lane.stop_stays hs)⟩
    · exact hstart ((Lane.start_stopped hs).trans (Lane.judgeHead_empty l false hq))
    · exact hstart ((Lane.start_stopped hs).trans (Lane.judgeHead_starts l false d rest hq henough))
    · exact hstart ((Lane.start_stopped hs).trans
        (Lane.judgeHead_waits l false d rest hq hlow (.inl (by rw [hs]; decide))))
  · intro b hb declined
    have hrange := State.requestArrives_lane_range h num hb
    exact ⟨congrArg _ (hrange 0), congrArg _ (hrange 1), congrArg _ (hrange 2)⟩

/-- Settles O42: a ready engine replies with the lane after the flush (`exec_laneFlush_ready`); what the flush writes and
leaves is `State.flushLane_returnedTo`. -/
theorem laneFlushEmptiesTheQueue : Obligations.LaneFlushEmptiesTheQueue := by
  intro s num n h hsettled l count state
  have hz := s.flushLane_returnedTo n
  have hflush := Lane.flush_eq l
  refine ⟨s.flushLane n, ?_, hz.lane.trans hflush, hz.freeList, s.laneCounter_flushLane n, fun hcount hm hroom hbusy => ?_,
    fun hcount hs => ?_, fun m => hz.other, hz.slots, hz.threads, hz.octets, hz.aging, hz.mode, hz.engine⟩
  · rw [exec_laneFlush_ready h num n, show (s.lane n).flush = _ from hflush]
    rfl
  · exact State.flushLane_notices (mt List.length_eq_zero_iff.mpr hcount) hm hroom hbusy
  · exact State.flushLane_nothing hsettled (List.length_eq_zero_iff.mp hcount) hs

end

section
/-! SUPPORT. The Ingress Gate on a shard of any kind: the header fault, and with a sound header the kinds and the source of a management shard (07 R111 to R113, 11 R163, R164). -/

namespace Sys2Proof.Machine

/-! ### What becomes of a verdict -/

theorem exec_shardArrival_dropped {s : State} {v : Vector Byte 64} {c : DropCounter} (hm : s.mode ≠ .starting)
    (hv : s.judgeShard v.toList = .drop c) : exec (.shardArrival v) s = .next (s.bumpDrop c) := by
  show Host.Outcome.next (s.takeOctets v.toList) = _
  rw [State.takeOctets, if_neg hm, hv]

/-- A shard judged a request is that request arriving from the controller; in STARTING both are discarded (07 R110, R113,
08 R120). -/
theorem exec_shardArrival_request {s : State} {v : Vector Byte 64} {r : Request}
    (hv : s.judgeShard v.toList = .request r) : exec (.shardArrival v) s = .next (s.requestArrives r) := by
  show Host.Outcome.next (s.takeOctets v.toList) = _
  by_cases hm : s.mode = .starting
  · rw [State.takeOctets_starting hm, State.requestArrives_starting s r hm]
  · rw [State.takeOctets, State.requestArrives, if_neg hm, if_neg hm, hv]

/-! ### The header (07 R111) -/

/-- The gate's two header checks are together the sound header: the field of two bits is 0 when both bits are. -/
theorem headerSound_iff_passes {v : Vector Byte 64} : headerSound v ↔
    headerCheck (v.toList.take 6) = (shardHeader v.toList).check ∧ (shardHeader v.toList).mustBeZero = 0 := by
  refine ⟨headerSound.passes, fun hpasses => ?_⟩
  rw [shardHeader_toList] at hpasses
  obtain ⟨hcheck, hzero⟩ := hpasses
  have hbit : ∀ i < 2, v[1].getLsbD i = false := fun i hi => by
    simpa [hi] using congrArg (fun b : BitVec 2 => b.getLsbD i) hzero
  exact ⟨hcheck, hbit 0 (by decide), hbit 1 (by decide)⟩

theorem State.judgeShard_headerFault (s : State) {v : Vector Byte 64} (h : ¬ headerSound v) :
    s.judgeShard v.toList = .drop .header := by
  unfold State.judgeShard
  dsimp only
  by_cases hcheck : headerCheck (v.toList.take 6) = (shardHeader v.toList).check
  · have hzero : (shardHeader v.toList).mustBeZero ≠ 0 := fun hzero => h (headerSound_iff_passes.mpr ⟨hcheck, hzero⟩)
    rw [if_neg (not_not.mpr hcheck), if_pos hzero]
  · rw [if_pos hcheck]

/-! ### The kinds (07 R112, R113) -/

/-- The source the gate compares with CONTROLLER is the shard's source number (11 R163). -/
theorem shardHeader_source_eq_iff (v : Vector Byte 64) (n : Fin 64) :
    (shardHeader v.toList).source = n ↔ sourceNumber v = n.val := by
  have hsource : (shardHeader v.toList).source.val = sourceNumber v := by
    simp only [shardHeader_toList, Fin.ofNat, BitVec.extractLsb'_toNat, Nat.shiftRight_zero, sourceNumber]
    omega
  rw [Fin.ext_iff, hsource]

/-- Behind a sound header the kind decides, and of a management shard the source. -/
theorem State.judgeShard_sound (s : State) {v : Vector Byte 64} (h : headerSound v) : s.judgeShard v.toList =
    if kindBits v = 0b01#2 then s.judgeData (shardFields v)
    else if kindBits v = 0b10#2 then
      if sourceNumber v = s.controller.val then .request (requestOf (v.toList.drop 8)) else .drop .foreign
    else .drop .kind := by
  obtain ⟨hcheck, hzero⟩ := h.passes
  have hkind : (shardHeader v.toList).kind = kindBits v := by rw [shardHeader_toList]
  unfold State.judgeShard
  dsimp only
  rw [if_neg (not_not.mpr hcheck), if_neg (not_not.mpr hzero), hkind, dataShard_eq_shardFields]
  simp only [shardHeader_source_eq_iff]

theorem State.judgeShard_kind (s : State) {v : Vector Byte 64} (h : headerSound v) (hdata : kindBits v ≠ 0b01#2)
    (hmanagement : kindBits v ≠ 0b10#2) : s.judgeShard v.toList = .drop .kind := by
  rw [s.judgeShard_sound h, if_neg hdata, if_neg hmanagement]

theorem State.judgeShard_management (s : State) {v : Vector Byte 64} (h : headerSound v) (hk : kindBits v = 0b10#2) :
    s.judgeShard v.toList =
      if sourceNumber v = s.controller.val then .request (requestOf (v.toList.drop 8)) else .drop .foreign := by
  rw [s.judgeShard_sound h, if_neg (by rw [hk]; decide), if_pos hk]

end Sys2Proof.Machine

open Sys2Proof Sys2Proof.Machine

/-- Settles O18: a header that is not sound fails one of the gate's first two checks, and both drop the shard as HEADER. -/
theorem headerFaultIsDroppedAsHeader : Obligations.HeaderFaultIsDroppedAsHeader :=
  fun s _ hm hfault => exec_shardArrival_dropped hm (s.judgeShard_headerFault hfault)

/-- Settles O19, from the gate's verdicts on the two kinds without a meaning and on a management shard. -/
theorem kindAndForeignDrops : Obligations.KindAndForeignDrops := by
  intro s v hm h
  refine ⟨fun hk => ?_, fun hk hforeign => ?_⟩
  · obtain ⟨hdata, hmanagement⟩ : kindBits v ≠ 0b01#2 ∧ kindBits v ≠ 0b10#2 := by
      rcases hk with hk | hk <;> rw [hk] <;> decide
    exact exec_shardArrival_dropped hm (s.judgeShard_kind h hdata hmanagement)
  · exact exec_shardArrival_dropped hm ((s.judgeShard_management h hk).trans (if_neg hforeign))

/-- Settles O20: the gate reads of the shard the request its payload spells, and the row is the arrival of the same
request (`exec_request`). -/
theorem requestRowIsItsManagementShard : Obligations.RequestRowIsItsManagementShard := by
  intro i s v h hk hsource hpayload
  have hverdict : s.judgeShard v.toList = .request (requestOf (v.toList.drop 8)) :=
    (s.judgeShard_management h hk).trans (if_pos hsource)
  calc exec (.shardArrival v) s
      _ = .next (s.requestArrives (requestOf (v.toList.drop 8))) := exec_shardArrival_request hverdict
      _ = exec i s := (exec_request i s _ hpayload).symm

end

section
/-! SUPPORT. What the operations of a step leave of the engine, the mode and the return link: the store, the Slot Table, the lanes and the scan, each followed once (10 R151 to R159). -/

namespace Sys2Proof.Machine

/-! ### The laws of the link and its arbiter (10 R152) -/

/-- The return link within its ranges: a full-restart hold stands only while a reply waits, and the notice queue and the
lost-notice count are bounded (10 R153, R156). -/
structure ReturnLink.InRange (r : ReturnLink) : Prop where
  hold : r.fullRestartHold = true → r.replies ≠ []
  notices : r.notices.length ≤ Config.noticePlaces
  lost : r.lostNotices ≤ Config.lostNoticeLimit

/-- Nothing waits on an IDLE link (10 R151, R152). -/
def ReturnLink.Exhausted (r : ReturnLink) : Prop :=
  r.onLink = none → r.replies = [] ∧ r.notices = [] ∧ r.congestionPending = false

theorem State.returnLaw_iff (s : State) :
    s.returnLaw ↔ s.ret.Exhausted ∧ s.ret.InRange ∧ s.orphanTally < Config.orphanBurst :=
  ⟨fun ⟨hidle, hhold, hnotices, hlost, htally⟩ => ⟨hidle, ⟨hhold, hnotices, hlost⟩, htally⟩,
    fun ⟨hidle, hrange, htally⟩ => ⟨hidle, hrange.hold, hrange.notices, hrange.lost, htally⟩⟩

section Arbiter

variable {r : ReturnLink} (c : ReturnContent)

theorem ReturnLink.InRange.arbitrate (h : r.InRange) : (r.arbitrate c).InRange where
  hold := by
    unfold ReturnLink.arbitrate
    split
    · exact h.hold
    split
    · exact h.hold
    split
    · nofun
    split <;> exact h.hold
  notices := (r.arbitrate_notices_length c).trans h.notices
  lost := by rw [ReturnLink.arbitrate_lostNotices]; exact h.lost

/-- The arbiter leaves the link IDLE only when it finds nothing to choose: a hold that bars the congestion status has a
reply behind it (10 R152, R153). -/
theorem ReturnLink.arbitrate_exhausted (h : r.fullRestartHold = true → r.replies ≠ []) : (r.arbitrate c).Exhausted := by
  unfold ReturnLink.arbitrate
  split
  · next hbusy => exact fun hidle => absurd hbusy (by simp [hidle])
  split
  · nofun
  next hbarred =>
  split
  · nofun
  next hreplies =>
  split
  · nofun
  next hnotices =>
  refine fun _ => ⟨hreplies, hnotices, ?_⟩
  have hfree : r.fullRestartHold = false := Bool.eq_false_iff.mpr fun hheld => h hheld hreplies
  simpa [hfree] using hbarred

/-- A submission other than a reply begins no reply: on a busy link the arbiter chooses nothing, and on an IDLE one no reply
waits. -/
theorem ReturnLink.Exhausted.arbitrate_replies {r' : ReturnLink} (h : r.Exhausted) (hlink : r'.onLink = r.onLink)
    (hreplies : r'.replies = r.replies) : (r'.arbitrate c).replies = r.replies := by
  cases hl : r.onLink with
  | some shard => rw [ReturnLink.arbitrate_busy r' c (by rw [hlink, hl]; rfl), hreplies]
  | none =>
    obtain ⟨hnone, -⟩ := h hl
    have hlength := r'.arbitrate_replies_length c
    rw [hreplies, hnone] at hlength
    rw [hnone, List.length_eq_zero_iff.mp (Nat.le_zero.mp hlength)]

end Arbiter

/-! ### Operations beside the engine -/

/-- Seen from `s`, the state `v` after operations that ask nothing of the Management Engine: its record and the mode are as
they were, and where the link met its laws it meets them still, with the same replies waiting. -/
structure State.EngineKept (s v : State) : Prop where
  engine : v.engine = s.engine
  mode : v.mode = s.mode
  link : s.returnLaw → v.returnLaw
  replies : s.returnLaw → v.ret.replies = s.ret.replies

namespace State.EngineKept

variable {s v w : State}

theorem same (hengine : v.engine = s.engine := by simp) (hmode : v.mode = s.mode := by simp)
    (hret : v.ret = s.ret := by simp) (htally : v.orphanTally = s.orphanTally := by simp) : s.EngineKept v where
  engine := hengine
  mode := hmode
  link h := by rwa [State.returnLaw, hret, htally]
  replies _ := by rw [hret]

theorem refl : s.EngineKept s := same rfl rfl rfl rfl

theorem trans (h : s.EngineKept v) (h' : v.EngineKept w) : s.EngineKept w where
  engine := h'.engine.trans h.engine
  mode := h'.mode.trans h.mode
  link hs := h'.link (h.link hs)
  replies hs := (h'.replies (h.link hs)).trans (h.replies hs)

theorem foldl {α : Type} {f : State → α → State} (hf : ∀ (z : State) (a : α), z.EngineKept (f z a)) (as : List α) :
    s.EngineKept (as.foldl f s) :=
  foldl_keeps (p := s.EngineKept) (fun z a h => h.trans (hf z a)) as refl

/-- A submission to the arbiter that leaves the link and the replies as they were (10 R152). -/
theorem submits (hengine : v.engine = s.engine) (hmode : v.mode = s.mode) (hlink : v.ret.onLink = s.ret.onLink)
    (hreplies : v.ret.replies = s.ret.replies) (htally : v.orphanTally = s.orphanTally)
    (hrange : s.ret.InRange → v.ret.InRange) : s.EngineKept v.arbitrate where
  engine := hengine
  mode := hmode
  link h := by
    obtain ⟨-, hin, hlow⟩ := s.returnLaw_iff.mp h
    have hin' := hrange hin
    exact v.arbitrate.returnLaw_iff.mpr
      ⟨ReturnLink.arbitrate_exhausted _ hin'.hold, hin'.arbitrate _, htally.trans_lt hlow⟩
  replies h := (s.returnLaw_iff.mp h).1.arbitrate_replies _ hlink hreplies

end State.EngineKept

section Operations

variable (s : State)

/-- A notice is masked, lost or queued (10 R156). -/
theorem State.raise_engineKept (kind : NoticeKind) (t : Option ThreadId) (g : Option Tag) (n : Option LaneId)
    (c : Option (BitVec 16)) : s.EngineKept (s.raise kind t g n c) := by
  unfold State.raise
  split
  · exact .refl
  split
  · refine ⟨rfl, rfl, fun h => ?_, fun _ => rfl⟩
    obtain ⟨hidle, hrange, htally⟩ := s.returnLaw_iff.mp h
    exact (State.returnLaw_iff _).mpr ⟨hidle, ⟨hrange.hold, hrange.notices, Nat.min_le_right _ _⟩, htally⟩
  · next hroom =>
    refine .submits rfl rfl rfl rfl rfl fun hrange => ⟨hrange.hold, ?_, Nat.zero_le _⟩
    simpa [ReturnLink.queueNotice] using Nat.succ_le_of_lt (Nat.not_le.mp hroom)

theorem State.changeCongestion_engineKept (c : ClassId) (b : Bool) : s.EngineKept (s.changeCongestion c b) :=
  .submits rfl rfl rfl rfl rfl fun hrange => ⟨hrange.hold, hrange.notices, hrange.lost⟩

/-- An ORPHAN drop keeps the tally below the burst (10 R158). -/
theorem State.dropOrphan_engineKept (t : ThreadId) : s.EngineKept (s.dropOrphan t) := by
  have htallied : ∀ n, n < Config.orphanBurst → s.EngineKept { s.bumpDrop .orphan with orphanTally := n } := fun n hn =>
    ⟨rfl, rfl, fun h => by
      obtain ⟨hidle, hrange, -⟩ := s.returnLaw_iff.mp h
      exact (State.returnLaw_iff _).mpr ⟨hidle, hrange, hn⟩, fun _ => rfl⟩
  unfold State.dropOrphan
  dsimp only
  split
  · exact (htallied 0 (Nat.zero_lt_succ _)).trans (State.raise_engineKept _ _ _ _ _ _)
  · next hlow => exact htallied _ (Nat.not_le.mp hlow)

/-! ### The store (04) -/

theorem State.judgeRise_engineKept (c : ClassId) : s.EngineKept (s.judgeRise c) := by
  unfold State.judgeRise
  split
  · exact s.changeCongestion_engineKept c true
  · exact .refl

theorem State.judgeFall_engineKept (c : ClassId) : s.EngineKept (s.judgeFall c) := by
  unfold State.judgeFall
  split
  · exact s.changeCongestion_engineKept c false
  · exact .refl

theorem State.rejudge_engineKept (c : ClassId) : s.EngineKept (s.rejudge c) := by
  unfold State.rejudge
  split
  · exact s.judgeFall_engineKept c
  · exact s.judgeRise_engineKept c

theorem State.settleReturns_engineKept : s.EngineKept s.settleReturns := by
  refine .foldl (fun z c => ?_) classIds
  unfold State.settleClass
  split
  · exact .trans (.same (v := z.setCls c { z.cls c with fallOwed := false })) (State.judgeFall_engineKept _ c)
  · exact .refl

theorem State.rebuildStore_engineKept : s.EngineKept s.rebuildStore := by
  refine .trans (v := s.storeEmptied) (.same rfl rfl rfl rfl) (.foldl (fun z c => ?_) classIds)
  unfold State.clearAtRebuild
  split
  · exact z.changeCongestion_engineKept c false
  · exact .refl

theorem State.claim_engineKept {z : State} {c : ClassId} {payload : List Byte} {u : UnitNo}
    (h : s.claim c payload = .taken u z) : s.EngineKept z := by
  obtain ⟨-, rest, -, rfl⟩ := (s.claim_taken_iff z c payload u).mp h
  exact .trans (.same (v := s.takeUnit c payload u rest)) (State.judgeRise_engineKept _ c)

theorem State.returnChain_engineKept (chain : List UnitNo) : s.EngineKept (s.returnChain chain) := .same

theorem State.bumpParcel_engineKept (c : ParcelCounter) : s.EngineKept (s.bumpParcel c) := .same

theorem State.bumpLane_engineKept (n : LaneId) (c : LaneCounter) (m : Nat) : s.EngineKept (s.bumpLane n c m) := .same

theorem State.setLane_engineKept (n : LaneId) (l : Lane) : s.EngineKept (s.setLane n l) := .same

theorem State.setSlot_engineKept (k : SlotId) (v : Slot) : s.EngineKept (s.setSlot k v) := .same

/-! ### The Slot Table (01, 02) -/

theorem State.poison_engineKept (k : SlotId) (t : ThreadId) (stamp : PeriodNo) (held : List UnitNo) (g : Option Tag)
    (r : PoisonReason) : s.EngineKept (s.poison k t stamp held g r) :=
  (((s.returnChain_engineKept held).trans (State.raise_engineKept _ _ _ _ _ _)).trans
    (State.bumpParcel_engineKept _ r.counter)).trans (State.setSlot_engineKept _ k _)

theorem State.discardPlaced_engineKept (placed : List UnitNo) (kind : NoticeKind) (c : ParcelCounter) (t : ThreadId)
    (g : Option Tag) (n : Option LaneId) : s.EngineKept (s.discardPlaced placed kind c t g n) :=
  ((s.returnChain_engineKept placed).trans (State.raise_engineKept _ _ _ _ _ _)).trans (State.bumpParcel_engineKept _ c)

theorem State.dropEntries_engineKept (es : List EarlyEntry) (c : DropCounter) : s.EngineKept (s.dropEntries es c) :=
  (s.returnChain_engineKept _).trans (.foldl (f := fun z _ => z.bumpDrop c) (fun _ _ => .same rfl rfl rfl rfl) es)

theorem State.orphanEntries_engineKept (t : ThreadId) (es : List EarlyEntry) : s.EngineKept (s.orphanEntries t es) :=
  (s.returnChain_engineKept _).trans (.foldl (f := fun z _ => z.dropOrphan t) (fun z _ => z.dropOrphan_engineKept t) es)

theorem State.restOrFree_engineKept (k : SlotId) (t : ThreadId) (stamp : PeriodNo) (x : Seq) :
    s.EngineKept (s.restOrFree k t stamp x) := by
  unfold State.restOrFree
  split <;> exact .same

theorem State.releaseSlot_engineKept (k : SlotId) : s.EngineKept (s.releaseSlot k) := .same

theorem State.sealParcel_engineKept (t : ThreadId) (a : Assembly) (e : EarlyEntry) :
    s.EngineKept (s.sealParcel t a e) := by
  unfold State.sealParcel
  dsimp only
  split
  · split
    · next z hz =>
      unfold State.offer at hz
      split at hz <;> cases hz
      exact .same rfl rfl rfl rfl
    · exact s.discardPlaced_engineKept _ _ _ _ _ _
  · exact s.discardPlaced_engineKept _ _ _ _ _ _

/-- The end of a parcel behind its seal or discard, row by row (02 R39 to R41). -/
theorem State.finishParcel_engineKept (k : SlotId) (t : ThreadId) (stamp : PeriodNo) (x : Seq)
    (held : List EarlyEntry) : s.EngineKept (s.finishParcel k t stamp x held).state := by
  cases hp : (s.thread t).pending with
  | some c =>
    rw [s.finishParcel_displaces k t stamp x held hp]
    exact ((EngineKept.same (v := s.signalParcelEnd t)).trans (State.dropEntries_engineKept _ held .displaced)).trans
      (State.restOrFree_engineKept _ k t stamp x)
  | none =>
    cases hr : (s.thread t).active.retain && (s.thread t).active.enabled with
    | false =>
      rw [s.finishParcel_orphans k t stamp x held hp hr]
      exact (s.orphanEntries_engineKept t held).trans (State.restOrFree_engineKept _ k t stamp x)
    | true =>
      by_cases hne : held = []
      · rw [hne, s.finishParcel_empty k t stamp x hp]
        exact s.restOrFree_engineKept k t stamp x
      · by_cases hm : s.mode = .closing
        · rw [s.finishParcel_closing k t stamp x held hp hr hne hm]
          exact (s.dropEntries_engineKept held .notRunning).trans (State.restOrFree_engineKept _ k t stamp x)
        · rw [s.finishParcel_next k t stamp x held hp hr hne hm]
          unfold State.nextParcel
          split
          · exact .refl
          · exact s.poison_engineKept _ _ _ _ _ _

theorem State.placePassed_engineKept (k : SlotId) (t : ThreadId) (stamp : PeriodNo) (a : Assembly) (e : EarlyEntry) :
    s.EngineKept (s.placePassed k t stamp a e).state := by
  unfold State.placePassed
  dsimp only
  split
  · exact (s.sealParcel_engineKept t _ e).trans (State.finishParcel_engineKept _ _ _ _ _ _)
  · exact .refl

theorem State.restartParcel_engineKept (t : ThreadId) (a : Assembly) (e : EarlyEntry) (p : Nat) :
    s.EngineKept (s.restartParcel t a e p).2 :=
  ((s.returnChain_engineKept a.placed).trans (State.raise_engineKept _ _ _ _ _ _)).trans
    (State.bumpParcel_engineKept _ .framing)

theorem State.placeShard_engineKept (k : SlotId) (t : ThreadId) (stamp : PeriodNo) (a : Assembly) (e : EarlyEntry) :
    s.EngineKept (s.placeShard k t stamp a e).state := by
  unfold State.placeShard
  split
  · split
    · exact s.placePassed_engineKept _ _ _ _ _
    · exact s.poison_engineKept _ _ _ _ _ _
  split
  · exact (s.restartParcel_engineKept t a e _).trans (State.placePassed_engineKept _ _ _ _ _ _)
  split
  · exact s.placePassed_engineKept _ _ _ _ _
  · exact s.poison_engineKept _ _ _ _ _ _

theorem State.drainEarly_engineKept (k : SlotId) (t : ThreadId) (stamp : PeriodNo) (n : Nat) (a : Assembly) :
    s.EngineKept (State.drainEarly k t stamp n a s) := by
  induction n generalizing a s with
  | zero => exact .same rfl rfl rfl rfl
  | succ n ih =>
    unfold State.drainEarly
    split
    · exact .same
    next e rest _ =>
    split
    · have hplaced := s.placeShard_engineKept k t stamp { a with early := rest } e
      split
      · next z hz => rw [hz] at hplaced; exact hplaced
      · next b z hz => rw [hz] at hplaced; exact hplaced.trans (ih z b)
    · exact .same

theorem State.placeAndDrain_engineKept (k : SlotId) (t : ThreadId) (stamp : PeriodNo) (a : Assembly) (e : EarlyEntry) :
    s.EngineKept (s.placeAndDrain k t stamp a e) := by
  have hplaced := s.placeShard_engineKept k t stamp a e
  unfold State.placeAndDrain
  split
  · next z hz => rw [hz] at hplaced; exact hplaced
  · next b z hz => rw [hz] at hplaced; exact hplaced.trans (z.drainEarly_engineKept _ _ _ _ b)

theorem State.startParcel_engineKept (k : SlotId) (sh : DataShard) : s.EngineKept (s.startParcel k sh) := by
  unfold State.startParcel
  dsimp only
  split
  · exact s.poison_engineKept _ _ _ _ _ _
  next hz =>
  split
  · exact (s.claim_engineKept hz).trans (State.poison_engineKept _ _ _ _ _ _ _)
  · exact (s.claim_engineKept hz).trans (State.placeAndDrain_engineKept _ _ _ _ _ _)

theorem State.evict_engineKept (k : SlotId) : s.EngineKept (s.evict k) := by
  unfold State.evict
  split
  · exact .refl
  · exact .same

theorem State.takeUnbound_engineKept (sh : DataShard) : s.EngineKept (s.takeUnbound sh) := by
  have hbinds : ∀ z k, State.EngineKept z (z.bindSlot k sh) := fun z k =>
    (EngineKept.same (v := z.setBinding sh.thread (some k))).trans (State.startParcel_engineKept _ k sh)
  unfold State.takeUnbound
  split
  · split
    · exact hbinds s _
    · split
      · next k _ => exact (s.evict_engineKept k).trans (hbinds _ k)
      · exact (EngineKept.same (v := s.bumpDrop .noSlot)).trans (State.raise_engineKept _ _ _ _ _ _)
  · exact s.dropOrphan_engineKept _

theorem State.judgeResting_engineKept (k : SlotId) (x : Seq) (sh : DataShard) : s.EngineKept (s.judgeResting k x sh) := by
  have hpoison := fun g r => s.poison_engineKept k sh.thread s.aging.periodNo [] g r
  unfold State.judgeResting
  dsimp only
  split
  · split
    · exact s.startParcel_engineKept k sh
    · exact hpoison _ _
  split
  · exact .same
  split
  · exact hpoison _ _
  split
  · exact hpoison _ _
  split
  · exact hpoison _ _
  split
  · exact hpoison _ _
  · next hz => exact (s.claim_engineKept hz).trans (State.setSlot_engineKept _ k _)

theorem State.judgeAssembling_engineKept (k : SlotId) (a : Assembly) (sh : DataShard) :
    s.EngineKept (s.judgeAssembling k a sh) := by
  have hpoison := fun g r => s.poison_engineKept k sh.thread s.aging.periodNo a.units g r
  unfold State.judgeAssembling
  dsimp only
  split
  · exact .same
  split
  · exact hpoison _ _
  split
  · exact .same
  split
  · split
    · split
      · exact hpoison _ _
      · next hz => exact (s.claim_engineKept hz).trans (State.setSlot_engineKept _ k _)
    · exact s.dropOrphan_engineKept _
  split
  · exact hpoison _ _
  split
  · exact hpoison _ _
  split
  · exact hpoison _ _
  next hz =>
  split
  · exact (s.claim_engineKept hz).trans (State.placeAndDrain_engineKept _ _ _ _ _ _)
  · exact (s.claim_engineKept hz).trans (State.setSlot_engineKept _ k _)

theorem State.judgeSkipping_engineKept (k : SlotId) (g : Option Tag) (sh : DataShard) :
    s.EngineKept (s.judgeSkipping k g sh) := by
  have hends : ∀ t x, s.EngineKept ((s.bumpDrop .skipped).endSkip k t x) := fun t x =>
    (EngineKept.same (v := (s.bumpDrop .skipped).signalParcelEnd t)).trans
      (State.restOrFree_engineKept _ k t s.aging.periodNo x)
  unfold State.judgeSkipping
  split
  · split
    · exact hends _ _
    · exact .same
  split
  · unfold State.endSkipOnF
    dsimp only
    split
    · exact (EngineKept.same (v := s.signalParcelEnd sh.thread)).trans (State.startParcel_engineKept _ k sh)
    · exact .same
  split
  · exact hends _ _
  · exact .same

/-- A data shard taken by the Slot Table asks nothing of the engine (01 R8). -/
theorem State.takeShard_engineKept (sh : DataShard) : s.EngineKept (s.takeShard sh) := by
  unfold State.takeShard
  split
  · exact s.takeUnbound_engineKept sh
  dsimp only
  split
  · exact s.takeUnbound_engineKept sh
  · exact (s.setSlot_engineKept _ _).trans (State.judgeResting_engineKept _ _ _ sh)
  · exact (s.setSlot_engineKept _ _).trans (State.judgeAssembling_engineKept _ _ _ sh)
  · exact (s.setSlot_engineKept _ _).trans (State.judgeSkipping_engineKept _ _ _ sh)

/-! ### Lanes, scan and CUT -/

theorem State.takeGrant_engineKept (n : LaneId) (g : Nat) : s.EngineKept (s.takeGrant n g) := by
  unfold State.takeGrant
  dsimp only
  split <;> exact .same

theorem State.endEmission_engineKept (n : LaneId) (d : Descriptor) : s.EngineKept (s.endEmission n d) :=
  (((s.returnChain_engineKept d.units).trans (State.bumpLane_engineKept _ n .emitted 1)).trans
    (State.setLane_engineKept _ n _)).trans (State.settleReturns_engineKept _)

theorem State.stallDiscard_engineKept (n : LaneId) (d : Descriptor) (rest : List Descriptor) :
    s.EngineKept (s.stallDiscard n d rest) :=
  (((((s.setLane_engineKept n _).trans (State.returnChain_engineKept _ d.units)).trans
    (State.raise_engineKept _ _ _ _ _ _)).trans (State.bumpLane_engineKept _ n .stalled 1)).trans
    (State.setLane_engineKept _ n _)).trans (State.settleReturns_engineKept _)

theorem State.flushLane_engineKept (n : LaneId) : s.EngineKept (s.flushLane n) := by
  have hreturned : s.EngineKept (s.flushed n) := (s.setLane_engineKept n (s.lane n).flush).trans
    (.foldl (f := fun (z : State) (d : Descriptor) => z.returnChain d.units) (fun z d => z.returnChain_engineKept d.units) _)
  by_cases hq : (s.lane n).queue = []
  · rw [State.flushLane_empty hq]
    exact hreturned.trans (State.settleReturns_engineKept _)
  · rw [State.flushLane_nonempty hq]
    exact ((hreturned.trans (State.raise_engineKept _ _ _ _ _ _)).trans (State.bumpLane_engineKept _ n .flushed _)).trans
      (State.settleReturns_engineKept _)

theorem State.visit_engineKept (k : SlotId) : s.EngineKept (s.visit k) := by
  have hreaps : ∀ t stamp, s.EngineKept (s.reapIfOld k t stamp) := fun t stamp => by
    unfold State.reapIfOld
    split
    · exact (((s.releaseSlot_engineKept k).trans (State.bumpParcel_engineKept _ .reaped)).trans
        (State.raise_engineKept _ _ _ _ _ _)).trans (State.settleReturns_engineKept _)
    · exact .refl
  unfold State.visit
  split
  · exact .refl
  · exact .refl
  · exact hreaps _ _
  · exact hreaps _ _

theorem State.oweScan_engineKept : s.EngineKept s.oweScan := by
  unfold State.oweScan
  split
  · exact .same
  · split <;> exact .same

end Operations

theorem State.cutSkipThread_engineKept (p : State × Nat) (t : ThreadId) :
    p.1.EngineKept (State.cutSkipThread p t).1 := by
  unfold State.cutSkipThread
  split
  · exact .refl
  split
  · exact .refl
  · exact .refl
  · exact .refl
  · exact State.poison_engineKept _ _ _ _ _ _ _

theorem State.cutReleaseThread_engineKept (p : State × Nat × Nat) (t : ThreadId) :
    p.1.EngineKept (State.cutReleaseThread p t).1 := by
  unfold State.cutReleaseThread
  split
  · exact .refl
  next k _ =>
  dsimp only
  split
  · exact ((p.1.releaseSlot_engineKept k).trans (State.raise_engineKept _ _ _ _ _ _)).trans
      (State.bumpParcel_engineKept _ .cut)
  · exact p.1.releaseSlot_engineKept k

end Sys2Proof.Machine
end

section
/-! SUPPORT. What a request does when the engine carries it out: its reply and the effect behind it, or a DRAIN left in progress; of the mode only OPEN, DRAIN and RESTART change anything (08 R123, R132, R133, R138, 09 R142, R146). -/

namespace Sys2Proof.Machine

/-! ### Parcels in progress -/

/-- No slot of `v` is ASSEMBLING or SKIPPING that was not so in `s`. -/
def State.StartsNoParcel (s v : State) : Prop := ∀ k, (v.slot k).busy = true → (s.slot k).busy = true

theorem State.busySlots_eq_zero_iff (s : State) : s.busySlots = 0 ↔ ∀ k, (s.slot k).busy = false := by
  unfold State.busySlots
  rw [List.countP_eq_zero]
  refine ⟨fun h k => Bool.eq_false_iff.mpr (h _ (by simp [State.slot])), fun h sl hsl => ?_⟩
  obtain ⟨i, hi, rfl⟩ := List.getElem_of_mem hsl
  exact Bool.eq_false_iff.mp (h ⟨i, by simpa using hi⟩)

namespace State.StartsNoParcel

variable {s v w : State}

theorem same (h : v.slots = s.slots := by simp) : s.StartsNoParcel v := fun k => by
  rw [State.slot_congr s v k h]
  exact id

theorem trans (h : s.StartsNoParcel v) (h' : v.StartsNoParcel w) : s.StartsNoParcel w := fun k hk => h k (h' k hk)

theorem busySlots (h : s.StartsNoParcel v) (hs : s.busySlots = 0) : v.busySlots = 0 :=
  v.busySlots_eq_zero_iff.mpr fun k =>
    Bool.eq_false_iff.mpr fun hk => Bool.eq_false_iff.mp (s.busySlots_eq_zero_iff.mp hs k) (h k hk)

end State.StartsNoParcel

theorem State.freeSlot_startsNoParcel (s : State) (k : SlotId) (t : ThreadId) : s.StartsNoParcel (s.freeSlot k t) :=
  fun j hj => by
    by_cases hjk : j = k
    · rw [hjk, State.slot_freeSlot_self] at hj
      exact absurd hj Bool.false_ne_true
    · rwa [State.slot_freeSlot_ne s k j t hjk] at hj

theorem State.releaseSlot_startsNoParcel (s : State) (k : SlotId) : s.StartsNoParcel (s.releaseSlot k) := by
  unfold State.releaseSlot
  split
  · exact .same rfl
  · exact s.freeSlot_startsNoParcel k _
  · exact (StartsNoParcel.same (v := s.signalParcelEnd _)).trans
      ((State.freeSlot_startsNoParcel _ k _).trans (.same rfl))
  · exact (StartsNoParcel.same (v := (s.returnChain _).signalParcelEnd _)).trans
      ((State.freeSlot_startsNoParcel _ k _).trans (.same rfl))

theorem State.StartsNoParcel.of_cleared {s v : State} (h : v.slots = Vector.replicate 96 .free) : s.StartsNoParcel v :=
  fun k hk => by
    rw [v.slot_replicate h k] at hk
    exact absurd hk Bool.false_ne_true

/-- A poison leaves its slot SKIPPING, which had a parcel in progress before (02 R42). -/
theorem State.poison_startsNoParcel {s : State} {k : SlotId} (hb : (s.slot k).busy = true) (t : ThreadId)
    (stamp : PeriodNo) (held : List UnitNo) (g : Option Tag) (r : PoisonReason) :
    s.StartsNoParcel (s.poison k t stamp held g r) := fun j hj => by
  by_cases hjk : j = k
  · rwa [hjk]
  · rwa [State.slot_poison_ne s k j t stamp held g r hjk] at hj

theorem State.cutSkipThread_startsNoParcel (p : State × Nat) (t : ThreadId) :
    p.1.StartsNoParcel (State.cutSkipThread p t).1 := by
  unfold State.cutSkipThread
  split
  · exact .same
  split
  · exact .same
  · exact .same
  · exact .same
  · next hk => exact State.poison_startsNoParcel (by rw [hk]; rfl) _ _ _ _ _

theorem State.cutReleaseThread_startsNoParcel (p : State × Nat × Nat) (t : ThreadId) :
    p.1.StartsNoParcel (State.cutReleaseThread p t).1 := by
  unfold State.cutReleaseThread
  split
  · exact .same
  next k _ =>
  dsimp only
  split
  · exact (p.1.releaseSlot_startsNoParcel k).trans .same
  · exact p.1.releaseSlot_startsNoParcel k

/-! ### The effect of a request -/

/-- The code of a request (11 R164). -/
def RequestName.code : RequestName → Byte
  | .readSetting => 1
  | .writeSetting => 2
  | .readThread => 3
  | .writeThread => 4
  | .readSlot => 5
  | .cut => 6
  | .lane => 7
  | .openDevice => 8
  | .drain => 9
  | .readCounters => 10
  | .restart => 11

theorem requestName_code {code : Byte} {n : RequestName} (h : requestName code = some n) : code = n.code := by
  unfold requestName at h
  split at h <;> cases h <;> next hcode => exact BitVec.eq_of_toNat_eq hcode

/-- What a request makes of the mode, and the code it must have to change it: a DRAIN reaches CLOSED only with no slot
ASSEMBLING or SKIPPING (08 R132, R133, 09 R142, R146). -/
inductive State.RequestMoves (s : State) (r : Request) (e : State) : Prop
  | stays (hmode : e.mode = s.mode)
  | opens (hcode : r.code = 0x08) (hmode : e.mode = .run)
  | drains (hcode : r.code = 0x09) (hfrom : s.mode ≠ .closed)
      (hmode : e.mode = .closing ∨ e.mode = .closed ∧ e.busySlots = 0)
  | restarts (hcode : r.code = 0x0B) (hmode : e.mode = .init)

section Moves

variable {s s' e e' : State} {r : Request} (h : s.RequestMoves r e)

include h

theorem State.RequestMoves.congr (hs : s'.mode = s.mode := by rfl) (he : e'.mode = e.mode := by rfl)
    (hslots : e'.slots = e.slots := by rfl) : s'.RequestMoves r e' := by
  have hbusy : e'.busySlots = e.busySlots := by rw [State.busySlots, State.busySlots, hslots]
  cases h with
  | stays hmode => exact .stays (he.trans (hmode.trans hs.symm))
  | opens hcode hmode => exact .opens hcode (he.trans hmode)
  | drains hcode hfrom hmode => exact .drains hcode (by rwa [hs]) (by rwa [he, hbusy])
  | restarts hcode hmode => exact .restarts hcode (he.trans hmode)

/-- No request leads to STARTING. -/
theorem State.RequestMoves.started (hs : s.mode ≠ .starting) : e.mode ≠ .starting := by
  cases h with
  | stays hmode => rwa [hmode]
  | opens _ hmode => rw [hmode]; nofun
  | drains _ _ hmode => rcases hmode with hmode | ⟨hmode, -⟩ <;> rw [hmode] <;> nofun
  | restarts _ hmode => rw [hmode]; nofun

end Moves

/-- The state `e` that a request's effect has made of `s`, the reply still to come: the engine's record is as it was but for
a queue that a RESTART FULL has emptied, the reply queue is no longer than before, and the link is within its bounds. -/
structure State.RequestEffect (s : State) (r : Request) (e : State) : Prop where
  queue : e.engine.queue.length ≤ s.engine.queue.length
  inProgress : e.engine.inProgress = s.engine.inProgress
  drainTimer : e.engine.drainTimer = s.engine.drainTimer
  replies : s.returnLaw → e.ret.replies.length ≤ s.ret.replies.length
  notices : s.returnLaw → e.ret.notices.length ≤ Config.noticePlaces
  lost : s.returnLaw → e.ret.lostNotices ≤ Config.lostNoticeLimit
  tally : s.returnLaw → e.orphanTally < Config.orphanBurst
  moves : s.RequestMoves r e
  parcels : s.StartsNoParcel e

/-- The engine left WORKING on a DRAIN, in the mode it has led to (08 R133). -/
def State.drainingIn (s : State) (r : Request) (m : Mode) : State :=
  { s with
    mode := m
    engine := { s.engine with inProgress := some r, reserved := true, drainTimer := some s.engine.drainLimit } }

/-- What a request carried out leaves: its reply behind its effect, or the DRAIN in progress. -/
inductive State.CarriedOut (s : State) (r : Request) (t : State) : Prop
  | answered (e : State) (st : Status) (c : ReplyResult) (heffect : s.RequestEffect r e) (ht : t = e.answer r st c)
  | draining (m : Mode) (hmoves : s.RequestMoves r (s.drainingIn r m)) (ht : t = s.drainingIn r m)

section Effects

variable {s e : State} {r : Request}

/-- An effect that asks nothing of the engine and leaves the mode. -/
theorem State.EngineKept.effect (h : s.EngineKept e) (hparcels : s.StartsNoParcel e) : s.RequestEffect r e where
  queue := by rw [h.engine]
  inProgress := by rw [h.engine]
  drainTimer := by rw [h.engine]
  replies hs := (congrArg List.length (h.replies hs)).le
  notices hs := (e.returnLaw_iff.mp (h.link hs)).2.1.notices
  lost hs := (e.returnLaw_iff.mp (h.link hs)).2.1.lost
  tally hs := (e.returnLaw_iff.mp (h.link hs)).2.2
  moves := .stays h.mode
  parcels := hparcels

theorem State.EngineKept.carriedOut (h : s.EngineKept e) (st : Status) (c : ReplyResult)
    (hparcels : s.StartsNoParcel e := by exact .same) : s.CarriedOut r (e.answer r st c) :=
  .answered e st c (h.effect hparcels) rfl

/-- A reply without an effect. -/
theorem State.answer_carriedOut (st : Status) (c : ReplyResult) : s.CarriedOut r (s.answer r st c) :=
  EngineKept.refl.carriedOut st c

/-- An effect that leaves the link, the queue and the request in progress, whatever becomes of the mode. -/
theorem State.RequestEffect.of_moves (hmoves : s.RequestMoves r e) (hqueue : e.engine.queue = s.engine.queue)
    (hprogress : e.engine.inProgress = s.engine.inProgress) (htimer : e.engine.drainTimer = s.engine.drainTimer)
    (hreplies : e.ret.replies = s.ret.replies) (hnotices : e.ret.notices = s.ret.notices)
    (hlost : e.ret.lostNotices = s.ret.lostNotices) (htally : e.orphanTally = s.orphanTally)
    (hslots : e.slots = s.slots) : s.RequestEffect r e where
  queue := by rw [hqueue]
  inProgress := hprogress
  drainTimer := htimer
  replies _ := by rw [hreplies]
  notices hs := by rw [hnotices]; exact (s.returnLaw_iff.mp hs).2.1.notices
  lost hs := by rw [hlost]; exact (s.returnLaw_iff.mp hs).2.1.lost
  tally hs := by rw [htally]; exact (s.returnLaw_iff.mp hs).2.2
  moves := hmoves
  parcels := .same hslots

end Effects

/-! ### The requests, one by one -/

section Requests

variable (s : State) (r : Request)

theorem State.doWriteSetting_carriedOut : s.CarriedOut r (s.doWriteSetting r) := by
  have hdeclined : ∀ st, s.CarriedOut r (s.decline r st) := fun st => State.answer_carriedOut st .empty
  have hquota : ∀ c v, s.CarriedOut r (s.doWriteQuota r c v) := fun c v => by
    unfold State.doWriteQuota
    split
    · exact EngineKept.carriedOut .same _ _
    · exact hdeclined _
  have hwarn : ∀ c v, s.CarriedOut r (s.doWriteWarn r c v) := fun c v => by
    unfold State.doWriteWarn
    split
    · exact ((EngineKept.same (v := s.setCls c { s.cls c with warn := v.toNat })).trans
        (State.rejudge_engineKept _ c)).carriedOut _ _ (.same (by simp))
    · exact hdeclined _
  have hstall : ∀ n v, s.CarriedOut r (s.doWriteStall r n v) := fun n v =>
    (s.setLane_engineKept n _).carriedOut _ _
  unfold State.doWriteSetting
  dsimp only
  split
  · exact hdeclined _
  · exact hdeclined _
  · unfold State.doWriteController
    split
    · exact EngineKept.carriedOut .same _ _
    · exact hdeclined _
  · unfold State.doWritePeriod
    split
    · exact EngineKept.carriedOut .same _ _
    · exact hdeclined _
  · unfold State.doWriteDrainLimit
    split
    · refine .answered _ _ _ ?_ rfl
      exact .of_moves (.stays rfl) rfl rfl rfl rfl rfl rfl rfl rfl
    · exact hdeclined _
  · exact hquota _ _
  · exact hquota _ _
  · exact hquota _ _
  · exact hquota _ _
  · exact hwarn _ _
  · exact hwarn _ _
  · exact hwarn _ _
  · exact hwarn _ _
  · unfold State.doWriteHysteresis
    split
    · let written : State := { s with store := { s.store with hysteresis := (r.field 4).toNat } }
      exact ((EngineKept.same (s := s) (v := written) rfl rfl rfl rfl).trans
        (.foldl (fun z c => z.rejudge_engineKept c) classIds)).carriedOut _ _
        (.same (by simp [classIds, written]))
    · exact hdeclined _
  · unfold State.doWriteNoticeMask
    split
    · refine .answered _ _ _ ?_ rfl
      exact .of_moves (.stays rfl) rfl rfl rfl rfl rfl rfl rfl rfl
    · exact hdeclined _
  · exact hstall _ _
  · exact hstall _ _
  · exact hstall _ _
  · exact hstall _ _
  · exact hdeclined _
  · exact hdeclined _

theorem State.doWriteThread_carriedOut : s.CarriedOut r (s.doWriteThread r) := by
  have hactive : ∀ t c, s.EngineKept (s.writeActive t c) := fun _ _ => .same rfl rfl rfl rfl
  have happlied : ∀ t c, s.CarriedOut r ((s.writeActive t c).decline r .done) := fun t c =>
    (hactive t c).carriedOut _ _ (.same rfl)
  have hstored : ∀ t c, s.CarriedOut r (s.storePending r t c) := fun t c => by
    unfold State.storePending
    exact EngineKept.carriedOut (e := s.setThread t _) .same _ _
  unfold State.doWriteThread
  split
  · next t c _ _ =>
    unfold State.writeThread
    split
    · exact happlied t c
    next k _ =>
    split
    · exact happlied t c
    · split
      · exact happlied t c
      · exact ((hactive t c).trans (.same (v := (s.writeActive t c).freeSlot k t))).carriedOut _ _
          ((StartsNoParcel.same (v := s.writeActive t c) rfl).trans (State.freeSlot_startsNoParcel _ k t))
    · exact hstored t c
    · exact hstored t c
  · exact State.answer_carriedOut _ _

/-- CUT ends parcels and starts none, at each of its target threads (08 R128 to R130). -/
theorem State.doCut_carriedOut : s.CarriedOut r (s.doCut r) := by
  unfold State.doCut
  split
  · next ts _ _ =>
    obtain ⟨hkept, hparcels⟩ := foldl_keeps (p := fun p : State × Nat => s.EngineKept p.1 ∧ s.StartsNoParcel p.1)
      (fun p t h => ⟨h.1.trans (State.cutSkipThread_engineKept p t), h.2.trans (State.cutSkipThread_startsNoParcel p t)⟩)
      ts (b := (s, 0)) ⟨.refl, .same⟩
    exact (hkept.trans (State.settleReturns_engineKept _)).carriedOut _ _ (hparcels.trans .same)
  · next ts _ _ =>
    obtain ⟨hkept, hparcels⟩ := foldl_keeps
      (p := fun p : State × Nat × Nat => s.EngineKept p.1 ∧ s.StartsNoParcel p.1)
      (fun p t h => ⟨h.1.trans (State.cutReleaseThread_engineKept p t),
        h.2.trans (State.cutReleaseThread_startsNoParcel p t)⟩)
      ts (b := (s, 0, 0)) ⟨.refl, .same⟩
    exact (hkept.trans (State.settleReturns_engineKept _)).carriedOut _ _ (hparcels.trans .same)
  · exact State.answer_carriedOut _ _

theorem State.doLane_carriedOut : s.CarriedOut r (s.doLane r) := by
  unfold State.doLane
  split
  · exact (s.setLane_engineKept _ _).carriedOut _ _
  · exact (s.setLane_engineKept _ _).carriedOut _ _
  · exact (s.flushLane_engineKept _).carriedOut _ _ (.same (s.flushLane_returnedTo _).slots)
  · exact State.answer_carriedOut _ _

theorem State.doReadCounters_carriedOut : s.CarriedOut r (s.doReadCounters r) := by
  have hcleared : ∀ (b : Bool) (c : Counters) (st : Status) (content : ReplyResult),
      s.CarriedOut r ((if b then { s with counters := c } else s).answer r st content) := fun b c st content => by
    cases b
    · exact State.answer_carriedOut st content
    · exact EngineKept.carriedOut .same st content
  unfold State.doReadCounters
  dsimp only
  split
  · exact hcleared _ _ _ _
  · exact hcleared _ _ _ _
  · split
    · exact State.answer_carriedOut _ _
    · exact hcleared _ _ _ _
  · exact hcleared _ _ _ _
  · exact State.answer_carriedOut _ _

/-- The mode that a DRAIN taken in RUN or CLOSING leads to (09 R142). -/
def State.drainMode : Mode := if s.busySlots = 0 then .closed else .closing

theorem State.doDrain_open (h : s.mode = .run ∨ s.mode = .closing) :
    s.doDrain r = { s with mode := s.drainMode }.beginDrain r := by
  have hjudged : { s with mode := .closing }.judgeClose = { s with mode := s.drainMode } := by
    unfold State.judgeClose State.drainMode
    by_cases hb : s.busySlots = 0
    · rw [if_pos hb]
      exact if_pos ⟨rfl, hb⟩
    · rw [if_neg hb]
      exact if_neg fun hclose => hb hclose.2
  rcases h with hm | hm
  · rw [State.doDrain, hm]
    exact congrArg (fun v : State => v.beginDrain r) hjudged
  · have hsame : { s with mode := .closing } = s := by rw [← hm]
    rw [hsame] at hjudged
    rw [State.doDrain, hm]
    exact congrArg (fun v : State => v.beginDrain r) hjudged

theorem State.doDrain_closed (h : s.mode = .closed) : s.doDrain r = s.beginDrain r := by
  rw [State.doDrain, h]

theorem State.doDrain_refused (h : s.mode = .starting ∨ s.mode = .init) : s.doDrain r = s.decline r .refused := by
  rcases h with h | h <;> rw [State.doDrain, h]

variable {s r} in
/-- A DRAIN begun in the mode it has led to is answered at once or left in progress (08 R133). -/
theorem State.beginDrain_carriedOut {m : Mode} (hmoves : s.RequestMoves r { s with mode := m }) :
    s.CarriedOut r ({ s with mode := m }.beginDrain r) := by
  unfold State.beginDrain
  split
  · exact .answered _ _ _ (.of_moves hmoves rfl rfl rfl rfl rfl rfl rfl rfl) rfl
  · exact .draining m hmoves.congr rfl

theorem State.doDrain_carriedOut (hcode : r.code = 0x09) : s.CarriedOut r (s.doDrain r) := by
  have hopen : s.mode = .run ∨ s.mode = .closing → s.CarriedOut r (s.doDrain r) := fun hm => by
    rw [s.doDrain_open r hm]
    refine State.beginDrain_carriedOut (.drains hcode (by rcases hm with hm | hm <;> rw [hm] <;> nofun) ?_)
    show s.drainMode = .closing ∨ s.drainMode = .closed ∧ s.busySlots = 0
    unfold State.drainMode
    by_cases hb : s.busySlots = 0
    · exact .inr ⟨if_pos hb, hb⟩
    · exact .inl (if_neg hb)
  have hrefused : s.mode = .starting ∨ s.mode = .init → s.CarriedOut r (s.doDrain r) := fun hm => by
    rw [s.doDrain_refused r hm]
    exact State.answer_carriedOut _ _
  cases hm : s.mode with
  | starting => exact hrefused (.inl hm)
  | init => exact hrefused (.inr hm)
  | run => exact hopen (.inl hm)
  | closing => exact hopen (.inr hm)
  | closed =>
    rw [s.doDrain_closed r hm]
    exact State.beginDrain_carriedOut (m := s.mode) (.stays rfl)

/-- RESTART TRAFFIC keeps the replies that wait and empties the notice queue (10 R162). -/
theorem State.restartTraffic_effect (hcode : r.code = 0x0B) : s.RequestEffect r s.restartTraffic := by
  have hcleared : s.EngineKept (s.cleared s.aging.restart (s.threads.map ThreadEntry.restart)).rebuildStore := by
    refine .trans ?_ (State.rebuildStore_engineKept _)
    obtain ⟨lanes, counts, i, h⟩ := s.restartLanes_eq_withLanes
    rw [State.cleared, h]
    exact .same rfl rfl rfl rfl
  have hslots := (s.rebuildStore_restartedTo s.aging.restart (s.threads.map ThreadEntry.restart)).slots
  rw [State.restartTraffic_eq]
  generalize (s.cleared s.aging.restart (s.threads.map ThreadEntry.restart)).rebuildStore = z at hcleared hslots
  have hengine : z.endTraffic.engine = s.engine := hcleared.engine
  exact {
    queue := by rw [hengine]
    inProgress := by rw [hengine]
    drainTimer := by rw [hengine]
    replies := fun hs => (congrArg List.length (hcleared.replies hs)).le
    notices := fun _ => Nat.zero_le _
    lost := fun _ => Nat.zero_le _
    tally := fun hs => (z.returnLaw_iff.mp (hcleared.link hs)).2.2
    moves := .restarts hcode rfl
    parcels := .of_cleared hslots }

/-- RESTART FULL empties every queue (08 R138, 10 R162). -/
theorem State.restartFull_effect (hcode : r.code = 0x0B) : s.RequestEffect r s.restartFull := by
  have hengine := s.restartFull_engine
  have hslots := (s.held.rebuildStore_restartedTo { s.aging with period := 1000 }.restart
    (Vector.replicate 1024 ThreadEntry.default)).slots
  rw [State.restartFull_eq] at hengine ⊢
  generalize (s.held.cleared _ _).rebuildStore = z at hengine hslots
  exact {
    queue := by rw [hengine]; exact Nat.zero_le _
    inProgress := by rw [hengine]
    drainTimer := by rw [hengine]
    replies := fun _ => Nat.zero_le _
    notices := fun _ => Nat.zero_le _
    lost := fun _ => Nat.zero_le _
    tally := fun _ => Nat.zero_lt_succ _
    moves := .restarts hcode rfl
    parcels := .of_cleared hslots }

theorem State.doRestart_carriedOut (hcode : r.code = 0x0B) : s.CarriedOut r (s.doRestart r) := by
  unfold State.doRestart
  split
  · exact .answered _ _ _ (s.restartTraffic_effect r hcode) rfl
  · exact .answered _ _ _ (s.restartFull_effect r hcode) rfl
  · exact State.answer_carriedOut _ _

/-- What carrying out a request can do. -/
theorem State.carryOut_carriedOut : s.CarriedOut r (s.carryOut r) := by
  unfold State.carryOut
  split
  · exact State.answer_carriedOut _ _
  · unfold State.doReadSetting
    split <;> exact State.answer_carriedOut _ _
  · exact s.doWriteSetting_carriedOut r
  · unfold State.doReadThread
    split <;> exact State.answer_carriedOut _ _
  · exact s.doWriteThread_carriedOut r
  · unfold State.doReadSlot
    split <;> exact State.answer_carriedOut _ _
  · exact s.doCut_carriedOut r
  · exact s.doLane_carriedOut r
  · next hname =>
    exact .answered { s with mode := .run } _ _
      (.of_moves (.opens (requestName_code hname) rfl) rfl rfl rfl rfl rfl rfl rfl rfl) rfl
  · next hname => exact s.doDrain_carriedOut r (requestName_code hname)
  · exact s.doReadCounters_carriedOut r
  · next hname => exact s.doRestart_carriedOut r (requestName_code hname)

end Requests

end Sys2Proof.Machine
end

section
/-! SUPPORT. The laws of the Management Engine and of the return link: while the engine takes requests all hold but that none could be taken, and serving ends with that one too (08 R120 to R122, R133 to R136, 10 R152 to R158). -/

namespace Sys2Proof.Machine

/-! ### The laws while the engine takes requests -/

/-- The engine's laws but the last: its queue within its places and empty in STARTING, the reservation and the drain timer
with the DRAIN in progress, and the reply queue within its places (08 R120 to R122, R133, 10 R155). -/
structure State.EngineBooked (s : State) : Prop where
  room : s.engine.queue.length ≤ Config.managementPlaces
  starting : s.mode = .starting → s.engine.queue = [] ∧ s.engine.inProgress = none
  reserved : s.engine.reserved = s.engine.inProgress.isSome
  drainTimer : s.engine.drainTimer.isSome = s.engine.inProgress.isSome
  places : s.occupiedPlaces ≤ Config.replyPlaces

theorem State.engineLaw_iff (s : State) : s.engineLaw ↔ s.EngineBooked ∧ s.canTake = false :=
  ⟨fun ⟨hroom, hstarting, hreserved, htimer, hplaces, htake⟩ =>
      ⟨⟨hroom, hstarting, hreserved, htimer, hplaces⟩, htake⟩,
    fun ⟨h, htake⟩ => ⟨h.room, h.starting, h.reserved, h.drainTimer, h.places, htake⟩⟩

theorem State.canTake_iff (s : State) : s.canTake = true ↔ s.mode ≠ .starting ∧ s.engine.inProgress = none ∧
    s.engine.queue ≠ [] ∧ s.occupiedPlaces < Config.replyPlaces := by
  simp [State.canTake, and_assoc]

section Kept

variable {s v : State}

theorem State.EngineBooked.kept (h : s.EngineBooked) (hengine : v.engine = s.engine) (hmode : v.mode = s.mode)
    (hreplies : v.ret.replies.length ≤ s.ret.replies.length) : v.EngineBooked where
  room := by rw [hengine]; exact h.room
  starting := by rw [hengine, hmode]; exact h.starting
  reserved := by rw [hengine]; exact h.reserved
  drainTimer := by rw [hengine]; exact h.drainTimer
  places := by
    have hplaces := h.places
    unfold State.occupiedPlaces at hplaces ⊢
    rw [hengine]
    omega

theorem State.canTake_congr (hengine : v.engine = s.engine) (hmode : v.mode = s.mode)
    (hreplies : v.ret.replies = s.ret.replies) : v.canTake = s.canTake := by
  rw [Bool.eq_iff_iff, State.canTake_iff, State.canTake_iff, State.occupiedPlaces, State.occupiedPlaces, hengine, hmode,
    hreplies]

/-- The laws of the engine and of the link, between two steps. -/
def State.engineAndLinkLaw (s : State) : Prop := s.engineLaw ∧ s.returnLaw

theorem State.EngineKept.engineAndLinkLaw (hkept : s.EngineKept v) (h : s.engineAndLinkLaw) : v.engineAndLinkLaw := by
  obtain ⟨hengine, hlink⟩ := h
  obtain ⟨hbooked, htake⟩ := s.engineLaw_iff.mp hengine
  have hreplies := hkept.replies hlink
  exact ⟨v.engineLaw_iff.mpr ⟨hbooked.kept hkept.engine hkept.mode (by rw [hreplies]),
    (State.canTake_congr hkept.engine hkept.mode hreplies).trans htake⟩, hkept.link hlink⟩

end Kept

/-! ### Replies (08 R122, R123, 10 R155) -/

section Replies

variable {s e : State}

/-- A reply submitted leaves the link in order, whatever waited before: behind a reply that waits a hold is in place, and an
IDLE link has nothing left to choose (10 R152, R153, R155). -/
theorem State.queueReply_returnLaw (p : Reply) (hnotices : e.ret.notices.length ≤ Config.noticePlaces)
    (hlost : e.ret.lostNotices ≤ Config.lostNoticeLimit) (htally : e.orphanTally < Config.orphanBurst) :
    (e.queueReply p).returnLaw := by
  have hrange : ReturnLink.InRange { e.ret with replies := e.ret.replies ++ [p] } :=
    ⟨fun _ => List.concat_ne_nil p _, hnotices, hlost⟩
  exact (e.queueReply p).returnLaw_iff.mpr ⟨ReturnLink.arbitrate_exhausted _ hrange.hold, hrange.arbitrate _, htally⟩

theorem State.queueReply_replies_length (p : Reply) :
    (e.queueReply p).ret.replies.length ≤ e.ret.replies.length + 1 := by
  have hlength := ReturnLink.arbitrate_replies_length { e.ret with replies := e.ret.replies ++ [p] }
    e.store.congestionContent
  rwa [List.length_append] at hlength

/-- The engine has taken a request, or has done with a DRAIN, and a place of the reply queue is kept for the reply. -/
structure State.Replying (s : State) : Prop where
  room : s.engine.queue.length ≤ Config.managementPlaces
  started : s.mode ≠ .starting
  idle : s.engine.inProgress = none
  stopped : s.engine.drainTimer = none
  place : s.ret.replies.length < Config.replyPlaces

/-- The reply given, the engine is READY with the reservation given back. -/
theorem State.Replying.answer_booked (h : e.Replying) (r : Request) (st : Status) (c : ReplyResult) :
    (e.answer r st c).EngineBooked where
  room := h.room
  starting hm := absurd hm h.started
  reserved := by
    show false = e.engine.inProgress.isSome
    rw [h.idle]
    rfl
  drainTimer := by
    show e.engine.drainTimer.isSome = e.engine.inProgress.isSome
    rw [h.idle, h.stopped]
    rfl
  places := (State.queueReply_replies_length (e := { e with engine := { e.engine with reserved := false } }) _).trans h.place

/-- What a request carried out leaves is in order: its reply given, or the place kept for the reply to the DRAIN. -/
theorem State.CarriedOut.inOrder {r : Request} {t : State} (h : s.CarriedOut r t) (hs : s.Replying)
    (hlink : s.returnLaw) : t.EngineBooked ∧ t.returnLaw := by
  cases h with
  | answered e st c heffect ht =>
    have he : e.Replying :=
      ⟨heffect.queue.trans hs.room, heffect.moves.started hs.started, heffect.inProgress.trans hs.idle,
        heffect.drainTimer.trans hs.stopped, (heffect.replies hlink).trans_lt hs.place⟩
    rw [ht]
    exact ⟨he.answer_booked r st c, State.queueReply_returnLaw
      (e := { e with engine := { e.engine with reserved := false } }) _ (heffect.notices hlink) (heffect.lost hlink)
      (heffect.tally hlink)⟩
  | draining m hmoves ht =>
    rw [ht]
    exact ⟨⟨hs.room, fun hm => absurd hm (hmoves.started hs.started), rfl, rfl, hs.place⟩, hlink⟩

end Replies

/-! ### Serving (08 R122) -/

/-- What every request taken keeps, serving keeps. -/
theorem State.takeRequests_keeps {p : State → Prop}
    (htake : ∀ {s : State} {r : Request} {rest : List Request}, s.canTake = true → s.engine.queue = r :: rest → p s →
      p ({ s with engine := { s.engine with queue := rest, reserved := true } }.carryOut r))
    (n : Nat) {s : State} (h : p s) : p (State.takeRequests n s) := by
  induction n generalizing s with
  | zero => exact h
  | succ n ih =>
    unfold State.takeRequests
    split
    · next hcan =>
      refine ih ?_
      unfold State.takeHead
      split
      · exact h
      · next hq => exact htake hcan hq h
    · exact h

section Serving

variable {s : State}

/-- Serving leaves the laws in force, with no request left that could be taken (08 R122). -/
theorem State.serve_engineAndLinkLaw (hbooked : s.EngineBooked) (hlink : s.returnLaw) : s.serve.engineAndLinkLaw := by
  obtain ⟨hbooked', hlink'⟩ := State.takeRequests_keeps (p := fun v => v.EngineBooked ∧ v.returnLaw)
    (fun {v r rest} hcan hq h => by
      obtain ⟨hstarted, hidle, -, hplace⟩ := v.canTake_iff.mp hcan
      obtain ⟨hv, hv'⟩ := h
      have hroom := hv.room
      have hfree : v.engine.reserved = false := by rw [hv.reserved, hidle]; rfl
      have hstopped : v.engine.drainTimer = none := by
        rw [← Option.isNone_iff_eq_none, ← Option.not_isSome, hv.drainTimer, hidle]
        rfl
      rw [State.occupiedPlaces, hfree] at hplace
      rw [hq] at hroom
      let taken := { v with engine := { v.engine with queue := rest, reserved := true } }
      exact (taken.carryOut_carriedOut r).inOrder ⟨Nat.le_of_succ_le hroom, hstarted, hidle, hstopped, hplace⟩ hv')
    s.engine.queue.length ⟨hbooked, hlink⟩
  exact ⟨(State.engineLaw_iff _).mpr ⟨hbooked', s.serve_canTake⟩, hlink'⟩

/-- A request that arrives finds room in the queue, gets QUEUE_FULL where a reply has a place, or is lost (08 R121). -/
theorem State.arrive_engineAndLinkLaw (h : s.engineAndLinkLaw) (hstarted : s.mode ≠ .starting) (r : Request) :
    (s.arrive r).engineAndLinkLaw := by
  obtain ⟨hengine, hlink⟩ := h
  obtain ⟨hbooked, htake⟩ := s.engineLaw_iff.mp hengine
  unfold State.arrive
  split
  · next hroom =>
    refine State.serve_engineAndLinkLaw ⟨?_, fun hm => absurd hm hstarted, hbooked.reserved, hbooked.drainTimer,
      hbooked.places⟩ hlink
    simpa using Nat.succ_le_of_lt hroom
  next hfull =>
  split
  · next hplace =>
    obtain ⟨-, hrange, htally⟩ := s.returnLaw_iff.mp hlink
    let p : Reply := ⟨r.number, r.code, .queueFull, .empty⟩
    have hlink' : (s.queueReply p).returnLaw := State.queueReply_returnLaw p hrange.notices hrange.lost htally
    have hbooked' : (s.queueReply p).EngineBooked := by
      refine ⟨hbooked.room, hbooked.starting, hbooked.reserved, hbooked.drainTimer, ?_⟩
      have hlength := State.queueReply_replies_length (e := s) p
      unfold State.occupiedPlaces at hplace ⊢
      rw [State.queueReply_engine]
      omega
    dsimp only
    split
    · exact State.serve_engineAndLinkLaw hbooked' hlink'
    · refine ⟨(State.engineLaw_iff _).mpr ⟨hbooked', ?_⟩, hlink'⟩
      have hwaits : s.engine.queue ≠ [] := fun hq => hfull (by rw [hq]; exact Nat.zero_lt_succ _)
      have hworking : s.engine.inProgress ≠ none := fun hidle =>
        Bool.false_ne_true (htake.symm.trans (s.canTake_iff.mpr ⟨hstarted, hidle, hwaits, hplace⟩))
      exact Bool.eq_false_iff.mpr fun hcan => hworking ((State.canTake_iff _).mp hcan).2.1
  · exact EngineKept.engineAndLinkLaw (.same rfl rfl rfl rfl) ⟨hengine, hlink⟩

theorem State.requestArrives_engineAndLinkLaw (h : s.engineAndLinkLaw) (r : Request) :
    (s.requestArrives r).engineAndLinkLaw := by
  unfold State.requestArrives
  split
  · exact h
  · next hstarted => exact State.arrive_engineAndLinkLaw h hstarted r

/-! ### The end of a DRAIN (08 R134 to R136) -/

/-- The reply that ends a DRAIN takes the place that was kept for it, and the engine serves what waits behind. -/
theorem State.endDrain_engineAndLinkLaw (h : s.engineAndLinkLaw) {r : Request} (hr : s.engine.inProgress = some r)
    (st : Status) : (s.endDrain r st).engineAndLinkLaw := by
  obtain ⟨hengine, hlink⟩ := h
  obtain ⟨hbooked, -⟩ := s.engineLaw_iff.mp hengine
  obtain ⟨-, hrange, htally⟩ := s.returnLaw_iff.mp hlink
  let done := { s with engine := { s.engine with inProgress := none, drainTimer := none } }
  have hreserved : s.engine.reserved = true := by rw [hbooked.reserved, hr]; rfl
  have hreplying : done.Replying := by
    refine ⟨hbooked.room, fun hm => ?_, rfl, rfl, ?_⟩
    · obtain ⟨-, hidle⟩ := hbooked.starting hm
      exact absurd (hr.symm.trans hidle) nofun
    · have hplaces := hbooked.places
      rwa [State.occupiedPlaces, hreserved] at hplaces
  exact State.serve_engineAndLinkLaw (hreplying.answer_booked r st s.drainResult)
    (State.queueReply_returnLaw (e := { done with engine := { done.engine with reserved := false } }) _ hrange.notices
      hrange.lost htally)

theorem State.drainReport_engineAndLinkLaw (h : s.engineAndLinkLaw) : s.drainReport.engineAndLinkLaw := by
  unfold State.drainReport
  split
  · exact h
  · next hr =>
    split
    · exact State.endDrain_engineAndLinkLaw h hr .done
    · exact h

theorem State.laneReport_engineAndLinkLaw (h : s.engineAndLinkLaw) (n : LaneId) :
    (s.laneReport n).engineAndLinkLaw := by
  unfold State.laneReport
  split
  · exact State.drainReport_engineAndLinkLaw h
  · exact h

/-! ### Events -/

/-- A report taken changes the mode between two that both let the engine take requests (09 R143). -/
theorem State.takeReport_engineAndLinkLaw (h : s.engineAndLinkLaw) : s.takeReport.engineAndLinkLaw := by
  unfold State.takeReport
  split
  · next hclose =>
    obtain ⟨⟨hroom, -, hreserved, htimer, hplaces, htake⟩, hlink⟩ := h
    refine State.drainReport_engineAndLinkLaw
      ⟨⟨hroom, nofun, hreserved, htimer, hplaces, Bool.eq_false_iff.mpr fun hcan => ?_⟩, hlink⟩
    obtain ⟨-, htakes⟩ := (State.canTake_iff _).mp hcan
    have hstarted : s.mode ≠ .starting := by rw [hclose.1]; nofun
    exact Bool.false_ne_true (htake.symm.trans (s.canTake_iff.mpr ⟨hstarted, htakes⟩))
  · exact h

theorem State.takeOctets_engineAndLinkLaw (h : s.engineAndLinkLaw) (octets : List Byte) :
    (s.takeOctets octets).engineAndLinkLaw := by
  unfold State.takeOctets
  split
  · exact h
  next hstarted =>
  split
  · exact EngineKept.engineAndLinkLaw .same h
  · exact State.arrive_engineAndLinkLaw h hstarted _
  · next sh _ =>
    exact ((s.takeShard_engineKept sh).trans (State.settleReturns_engineKept _)).engineAndLinkLaw h

theorem State.expireStall_engineAndLinkLaw (h : s.engineAndLinkLaw) (n : LaneId) :
    (s.expireStall n).engineAndLinkLaw := by
  unfold State.expireStall
  split
  · split
    · exact h
    · exact State.laneReport_engineAndLinkLaw ((s.stallDiscard_engineKept n _ _).engineAndLinkLaw h) n
  · exact h

/-- The arbiter on an IDLE link begins a reply, or leaves the replies as they are (10 R152). -/
theorem ReturnLink.arbitrate_reply_or_kept {r : ReturnLink} (c : ReturnContent) (hidle : r.onLink = none) :
    (∃ q p, (r.arbitrate c).onLink = some ⟨q, .reply p⟩) ∨ (r.arbitrate c).replies = r.replies := by
  unfold ReturnLink.arbitrate
  rw [if_neg (by simp [hidle])]
  split
  · exact .inr rfl
  split
  · exact .inl ⟨_, _, rfl⟩
  · next hreplies =>
    right
    rw [hreplies]
    split
    · rfl
    · exact hreplies

/-- The arbiter's choice at the end of a return shard; a reply that begins frees its place, and the engine serves
(10 R151, R152, R155). -/
theorem State.endReturnShard_engineAndLinkLaw (h : s.engineAndLinkLaw) : s.endReturnShard.engineAndLinkLaw := by
  obtain ⟨hengine, hlink⟩ := h
  obtain ⟨hbooked, htake⟩ := s.engineLaw_iff.mp hengine
  obtain ⟨-, hrange, htally⟩ := s.returnLaw_iff.mp hlink
  have hfreed : ReturnLink.InRange { s.ret with onLink := none } := ⟨hrange.hold, hrange.notices, hrange.lost⟩
  let z := State.arbitrate { s with ret := { s.ret with onLink := none } }
  have hlink' : z.returnLaw :=
    z.returnLaw_iff.mpr ⟨ReturnLink.arbitrate_exhausted _ hfreed.hold, hfreed.arbitrate _, htally⟩
  have hbooked' : z.EngineBooked := hbooked.kept (s := s) rfl rfl (ReturnLink.arbitrate_replies_length _ _)
  have hother : (∀ q p, z.ret.onLink ≠ some ⟨q, .reply p⟩) → z.engineAndLinkLaw := fun hnone => by
    rcases ReturnLink.arbitrate_reply_or_kept (r := { s.ret with onLink := none }) s.store.congestionContent rfl with
      ⟨q, p, hbegun⟩ | hreplies
    · exact absurd hbegun (hnone q p)
    · have hcan : z.canTake = s.canTake := State.canTake_congr rfl rfl hreplies
      exact ⟨z.engineLaw_iff.mpr ⟨hbooked', hcan.trans htake⟩, hlink'⟩
  unfold State.endReturnShard
  dsimp only
  split
  · exact State.serve_engineAndLinkLaw hbooked' hlink'
  · next hbegun => exact hother fun q p hreply => by cases hbegun.symm.trans hreply
  · next hbegun => exact hother fun q p hreply => by cases hbegun.symm.trans hreply
  · next hidle => exact hother fun q p hreply => by cases hidle.symm.trans hreply

/-- The build runs in STARTING, in which no request waits: the mode INIT finds none to take (08 R120, 09 R140, R141). -/
theorem State.endStartUp_engineAndLinkLaw (h : s.engineAndLinkLaw) (hstarting : s.mode = .starting) :
    s.endStartUp.engineAndLinkLaw := by
  obtain ⟨⟨hroom, hempty, hreserved, htimer, hplaces, -⟩, hlink⟩ := h
  obtain ⟨hqueue, -⟩ := hempty hstarting
  have hbuilt : s.built.engineAndLinkLaw := by
    refine ⟨⟨hroom, nofun, hreserved, htimer, hplaces, Bool.eq_false_iff.mpr fun hcan => ?_⟩, hlink⟩
    exact ((State.canTake_iff _).mp hcan).2.2.1 hqueue
  rw [State.endStartUp_eq]
  exact ((s.built.raise_engineKept .started none none none none).trans (.same rfl rfl rfl rfl)).engineAndLinkLaw hbuilt

/-- Grants, expiries of the period and visits ask nothing of the engine (05 R83 to R87, 06 R98). -/
theorem exec_engineKept {i : Instr} {t : State} (hi : (∃ n w, i = .grant n w) ∨ i = .periodExpiry ∨ i = .scanVisit)
    (hexec : exec i s = .next t) : s.EngineKept t := by
  rcases hi with ⟨n, w, rfl⟩ | rfl | rfl
  · cases hexec
    split
    · exact .refl
    · exact s.takeGrant_engineKept n _
  · cases hexec
    split
    · exact .trans (v := { s with aging := s.aging.advance }) (.same rfl rfl rfl rfl) (State.oweScan_engineKept _)
    · exact .refl
  · cases hexec
    split
    · exact .refl
    · exact (s.visit_engineKept _).trans (.same rfl rfl rfl rfl)

/-- Every command keeps the laws of the engine and of the link. -/
theorem exec_engineAndLinkLaw {i : Instr} {t : State} (hexec : exec i s = .next t) (hmode : s.modeLaw)
    (h : s.engineAndLinkLaw) : t.engineAndLinkLaw := by
  have hrequest : ∀ r, exec i s = .next (s.requestArrives r) → t.engineAndLinkLaw := fun r hr => by
    cases hr.symm.trans hexec
    exact State.requestArrives_engineAndLinkLaw h r
  cases i
  case resetnAssert =>
    cases hexec
    exact ⟨State.reset_engineLaw, State.reset_returnLaw⟩
  case resetnRelease =>
    cases hexec
    split
    · exact State.EngineKept.engineAndLinkLaw (.same rfl rfl rfl rfl) h
    · exact h
  case endOfStartUp =>
    cases hexec
    split
    · next hbuilding =>
      obtain ⟨hstarting, -⟩ := hmode
      exact State.endStartUp_engineAndLinkLaw h (hstarting (.inr hbuilding))
    · exact h
  case shardArrival v =>
    cases hexec
    exact State.takeOctets_engineAndLinkLaw h _
  case closeJudgement =>
    cases hexec
    split
    · exact h
    · exact State.takeReport_engineAndLinkLaw (State.EngineKept.engineAndLinkLaw (.same rfl rfl rfl rfl) h)
  case grant n w => exact (exec_engineKept (.inl ⟨n, w, rfl⟩) hexec).engineAndLinkLaw h
  case emissionEnd n =>
    cases hexec
    split
    · exact h
    · exact State.laneReport_engineAndLinkLaw ((s.endEmission_engineKept n _).engineAndLinkLaw h) n
  case stallExpiry n =>
    cases hexec
    exact State.expireStall_engineAndLinkLaw h n
  case periodExpiry => exact (exec_engineKept (.inr (.inl rfl)) hexec).engineAndLinkLaw h
  case scanVisit => exact (exec_engineKept (.inr (.inr rfl)) hexec).engineAndLinkLaw h
  case drainTimerExpiry =>
    cases hexec
    split
    · next hr _ => exact State.endDrain_engineAndLinkLaw h hr .timeout
    · exact h
  case returnShardEnd =>
    cases hexec
    split
    · exact State.endReturnShard_engineAndLinkLaw h
    · exact h
  all_goals exact hrequest _ rfl

end Serving

end Sys2Proof.Machine

open Sys2Proof Sys2Proof.Machine

/-- Settles O12: what asks nothing of the engine keeps the laws (`State.EngineKept.engineAndLinkLaw`), and serving ends in
them (`State.serve_engineAndLinkLaw`). -/
theorem stepKeepsEngineAndLinkLaws : Obligations.StepKeepsEngineAndLinkLaws := by
  intro s t hstep hmode hengine hlink
  unfold step at hstep
  split at hstep
  · cases hstep
    exact ⟨hengine, hlink⟩
  · next rest _ =>
    have hkept : s.EngineKept { s with pending := rest } := .same rfl rfl rfl rfl
    exact exec_engineAndLinkLaw hstep hmode (hkept.engineAndLinkLaw ⟨hengine, hlink⟩)

end

section
/-! SUPPORT. An arriving request by the queues (08 R121, R122), OPEN, an unknown code and READ_COUNTERS as a ready engine answers them (08 R123, R132, R137). -/

namespace Sys2Proof.Machine

/-! ### The arrival (08 R121, R122) -/

/-- A request joins the tail of the queue. -/
def State.enqueue (s : State) (r : Request) : State :=
  { s with engine := { s.engine with queue := s.engine.queue ++ [r] } }

section Arrival

variable {s : State} (r : Request)

theorem State.requestArrives_started (hm : s.mode ≠ .starting) : s.requestArrives r = s.arrive r := if_neg hm

theorem State.arrive_room (h : s.engine.queue.length < 8) : s.arrive r = (s.enqueue r).serve := if_pos h

/-- A DRAIN in progress or a full reply queue leaves the request waiting. -/
theorem State.enqueue_canTake (h : s.engine.inProgress.isSome = true ∨ 8 ≤ s.occupiedPlaces) :
    (s.enqueue r).canTake = false := by
  refine Bool.eq_false_iff.mpr fun hcan => ?_
  obtain ⟨-, hidle, -, hplace⟩ := (State.canTake_iff _).mp hcan
  rcases h with hworking | hfull
  · have hnone : s.engine.inProgress = none := hidle
    exact absurd hworking (by simp [hnone])
  · exact absurd hplace (Nat.not_lt.mpr hfull)

/-- An empty queue in front of an engine that can take: the request is carried out, and none waits behind it. -/
theorem State.enqueue_serve_empty (hm : s.mode ≠ .starting) (hq : s.engine.queue = [])
    (hidle : s.engine.inProgress = none) (hplace : s.occupiedPlaces < 8) :
    (s.enqueue r).serve = { s with engine := { s.engine with reserved := true } }.carryOut r := by
  have hcan : (s.enqueue r).canTake = true := (State.canTake_iff _).mpr ⟨hm, hidle, List.concat_ne_nil r _, hplace⟩
  have hlength : (s.enqueue r).engine.queue.length = 1 := by simp [State.enqueue, hq]
  have hhead : (s.enqueue r).engine.queue = r :: s.engine.queue := by simp [State.enqueue, hq]
  unfold State.serve
  rw [hlength]
  unfold State.takeRequests
  rw [if_pos hcan]
  unfold State.takeRequests State.takeHead
  rw [hhead]
  rfl

theorem State.arrive_refused (hfull : 8 ≤ s.engine.queue.length) (hplace : s.occupiedPlaces < 8) :
    s.arrive r = if s.ret.onLink.isNone = true then (s.queueReply ⟨r.number, r.code, .queueFull, .empty⟩).serve
      else s.queueReply ⟨r.number, r.code, .queueFull, .empty⟩ :=
  (if_neg (Nat.not_lt.mpr hfull)).trans (if_pos hplace)

theorem State.arrive_lost (hfull : 8 ≤ s.engine.queue.length) (hplaces : 8 ≤ s.occupiedPlaces) :
    s.arrive r = s.bumpDevice .mgmtLost :=
  (if_neg (Nat.not_lt.mpr hfull)).trans (if_neg (Nat.not_lt.mpr hplaces))

end Arrival

/-! ### A code that names no request (08 R123) -/

theorem RequestName.code_range (n : RequestName) : 1 ≤ n.code.toNat ∧ n.code.toNat ≤ 11 := by
  cases n <;> decide

theorem requestName_none {code : Byte} (h : code = 0 ∨ 12 ≤ code.toNat) : requestName code = none := by
  cases hname : requestName code with
  | none => rfl
  | some n =>
    obtain ⟨hlow, hhigh⟩ := n.code_range
    rw [← requestName_code hname] at hlow hhigh
    rcases h with rfl | h
    · exact absurd hlow (by decide)
    · omega

/-! ### READ_COUNTERS (08 R137) -/

theorem Vector.toList_eq_ofFn {α : Type} {n : Nat} (v : Vector α n) : v.toList = List.ofFn fun i : Fin n => v[i] :=
  List.ext_getElem (by simp) fun i h h' => by simp

/-- The READ_COUNTERS request of a group, a lane and a clear flag. -/
def countersRequest (num : BitVec 16) (group lane clear : Byte) : Request := requestWith num 0x0A [group, lane, clear]

section Ready

variable {s : State} (h : s.ready) (num : BitVec 16)

include h

/-- A ready engine carries a request row's request out at once. -/
theorem exec_readCounters_ready (group lane clear : Byte) : exec (.readCounters num group lane clear) s =
    .next (s.reserving.doReadCounters (countersRequest num group lane clear)) :=
  congrArg _ (State.requestArrives_ready s _ h)

theorem State.answer_counters (group lane clear : Byte) (cleared : Counters) (values : List (BitVec 32)) :
    (if decide (clear ≠ 0) = true then { s.reserving with counters := cleared } else s.reserving).answer
        (countersRequest num group lane clear) .done (.counters values) =
      { s with counters := if clear = 0 then s.counters else cleared }.queueReply
        ⟨num, 0x0A, .done, .counters values⟩ := by
  by_cases hc : clear = 0
  · rw [if_neg (by simpa using hc), if_pos hc]
    exact State.answer_ready s s _ _ _ h rfl
  · rw [if_pos (by simpa using hc), if_neg hc]
    exact State.answer_ready s { s with counters := cleared } _ _ _ h rfl

end Ready

end Sys2Proof.Machine

open Sys2Proof Sys2Proof.Machine

/-- Settles O50: a request row is the arrival of its request (`exec_request`), judged by the queues row by row. -/
theorem arrivalIsJudgedByTheQueues : Obligations.ArrivalIsJudgedByTheQueues := by
  refine ⟨fun i s payload hi hm => ?_, State.serve_canTake⟩
  intro r occupied joined refused
  have harrives : exec i s = .next (s.arrive r) :=
    (exec_request i s payload hi).trans (congrArg _ (State.requestArrives_started r hm))
  rw [harrives]
  refine ⟨fun hroom hwaits => ?_, fun hq hidle hplace => ?_, fun hfull hplace hbusy => ?_, fun hfull hplace hidle => ?_,
    fun hfull hplaces => congrArg _ (State.arrive_lost r hfull hplaces)⟩
  · rw [State.arrive_room r hroom, State.serve_idle _ (State.enqueue_canTake r hwaits)]
    rfl
  · rw [State.arrive_room r (by rw [hq]; exact Nat.zero_lt_succ _), State.enqueue_serve_empty r hm hq hidle hplace]
  · rw [State.arrive_refused r hfull hplace, if_neg (by simpa [Option.isSome_iff_ne_none] using hbusy)]
  · rw [State.arrive_refused r hfull hplace, if_pos (by rw [hidle]; rfl)]

/-- Settles O57, from the requests a ready engine takes at once. -/
theorem openRunsAndUnknownCodesAreAnswered : Obligations.OpenRunsAndUnknownCodesAreAnswered := by
  intro s num h
  refine ⟨?_, fun code hcode => ?_⟩
  · refine congrArg Host.Outcome.next ((State.requestArrives_ready s (requestWith num 0x08 []) h).trans ?_)
    exact State.answer_ready s { s with mode := .run } _ _ _ h rfl
  · refine congrArg Host.Outcome.next ((State.requestArrives_ready s (requestWith num code []) h).trans ?_)
    unfold State.carryOut
    rw [show (requestWith num code []).code = code from rfl, requestName_none hcode]
    exact State.answer_ready s s _ _ _ h rfl

/-- Settles O58, group by group; a group's counters stand in the Counter Bank in the order of 08 R137. -/
theorem readCountersAnswersAndClears : Obligations.ReadCountersAnswersAndClears := by
  intro s num group lane clear h answered declined
  let request := countersRequest num group lane clear
  have hdone : ∀ {cleared : Counters} {n : Nat} {group : Vector (BitVec 32) n} {values : List (BitVec 32)},
      s.reserving.doReadCounters request =
        (if decide (clear ≠ 0) = true then { s.reserving with counters := cleared } else s.reserving).answer request .done
          (.counters group.toList) →
      (List.ofFn fun i : Fin n => group[i]) = values → answered cleared values := fun hd hvalues => by
    show exec _ s = _
    rw [exec_readCounters_ready h, hd, State.answer_counters h, Vector.toList_eq_ofFn, hvalues]
  have hrange : s.reserving.doReadCounters request = s.reserving.decline request .range → declined := fun hd => by
    show exec _ s = _
    rw [exec_readCounters_ready h, hd]
    exact congrArg _ (State.answer_ready s s _ _ _ h rfl)
  refine ⟨fun hg => ?_, fun hg => ?_, fun n hg hlane => ?_, fun hg => ?_, fun hg => ?_, fun hg hlane => ?_⟩
  · subst hg
    exact hdone (group := s.counters.drops) rfl rfl
  · subst hg
    exact hdone (group := s.counters.parcels) rfl rfl
  · subst hg
    have hoperand : fourOperand lane = some n := by
      have hlt : lane.toNat < 4 := by omega
      exact (dif_pos hlt).trans (congrArg some (Fin.ext hlane))
    refine hdone (group := s.counters.lanes[n.val]) ?_ rfl
    show (match fourOperand lane with | none => _ | some n => _) = _
    rw [hoperand]
    rfl
  · subst hg
    exact hdone (group := s.counters.device) rfl rfl
  · obtain ⟨k, hk⟩ := Nat.exists_eq_add_of_le' hg
    refine hrange ?_
    show (match group.toNat with | 0 => _ | 1 => _ | 2 => _ | 3 => _ | _ => _) = _
    rw [hk]
    rfl
  · subst hg
    refine hrange ?_
    show (match fourOperand lane with | none => _ | some n => _) = _
    rw [fourOperand_none hlane]

end

section
/-! SUPPORT. The slot report (09 R143) and DRAIN by the device mode (08 R133, R134, 09 R142). -/

namespace Sys2Proof.Machine

/-! ### The slot report -/

theorem exec_closeJudgement {s : State} (h : 0 < s.slotReports) :
    exec .closeJudgement s = .next { s with slotReports := s.slotReports - 1 }.takeReport :=
  congrArg Host.Outcome.next (if_neg h.ne')

section DrainCondition

variable {s : State}

theorem State.drainReport_idle (h : s.engine.inProgress = none) : s.drainReport = s := by
  unfold State.drainReport
  rw [h]

/-- A lane that holds a descriptor keeps the drain condition from holding (08 R134). -/
theorem State.drainCondition_held {n : LaneId}
    (h : (s.lane n).queue ≠ [] ∨ (s.lane n).state = .sending ∨ (s.lane n).state = .stopping) :
    s.drainCondition = false := by
  refine Bool.eq_false_iff.mpr fun hdrain => ?_
  obtain ⟨hq, hsend, hstop⟩ := (s.drainCondition_iff.mp hdrain).2 n
  exact h.elim (· hq) (·.elim hsend hstop)

theorem State.drainCondition_open (h : s.mode ≠ .closed) : s.drainCondition = false :=
  Bool.eq_false_iff.mpr fun hdrain => h (s.drainCondition_iff.mp hdrain).1

theorem State.drainReport_held (h : s.drainCondition = false) : s.drainReport = s := by
  unfold State.drainReport
  split
  · rfl
  · rw [if_neg (by simp [h])]

theorem State.drainCondition_holdsNothing (hm : s.mode = .closed) (h : ∀ n, (s.lane n).HoldsNothing) :
    s.drainCondition = true :=
  s.drainCondition_iff.mpr ⟨hm, fun n => ⟨(h n).queue, (h n).sending, (h n).stopping⟩⟩

theorem State.drainResult_holdsNothing (hm : s.mode = .closed) (hb : s.busySlots = 0)
    (h : ∀ n, (s.lane n).HoldsNothing) : s.drainResult = .drain .closed 0 0 := by
  have hempty : ∀ n, (s.lane n).queue.length + (if (s.lane n).emission = none then 0 else 1) = 0 := fun n => by
    rw [(h n).queue, (h n).emission]
    rfl
  rw [State.drainResult, hm, hb, State.laneDescriptors_eq]
  simp only [hempty]

end DrainCondition

/-! ### DRAIN -/

/-- The DRAIN request (08 R133). -/
def drainRequest (num : BitVec 16) : Request := requestWith num 0x09 []

/-- Where the drain condition does not hold the engine is WORKING (08 R133). -/
theorem State.beginDrain_working {s : State} (r : Request) (m : Mode)
    (hd : { s with mode := m }.drainCondition = false) :
    { s.reserving with mode := m }.beginDrain r = s.drainingIn r m :=
  if_neg (Bool.eq_false_iff.mp hd)

/-- A DRAIN taken in RUN, CLOSING or CLOSED with no slot ASSEMBLING or SKIPPING is begun in CLOSED (09 R142). -/
theorem State.doDrain_quiet {s : State} (r : Request) (hm : s.mode = .run ∨ s.mode = .closing ∨ s.mode = .closed)
    (hb : s.busySlots = 0) : s.doDrain r = { s with mode := .closed }.beginDrain r := by
  have hopen : s.mode = .run ∨ s.mode = .closing → s.doDrain r = { s with mode := .closed }.beginDrain r := fun hm => by
    rw [s.doDrain_open r hm, State.drainMode, if_pos hb]
  rcases hm with hm | hm | hm
  · exact hopen (.inl hm)
  · exact hopen (.inr hm)
  · have hsame : { s with mode := .closed } = s := by rw [← hm]
    rw [hsame, s.doDrain_closed r hm]

section Drain

variable {s : State} (h : s.ready) (num : BitVec 16)

include h

theorem exec_drain_ready : exec (.drain num) s = .next (s.reserving.doDrain (drainRequest num)) :=
  congrArg _ (State.requestArrives_ready s _ h)

/-- In CLOSED with no slot busy and no lane holding anything the reply is DONE at once (08 R133, R134). -/
theorem State.beginDrain_done (hb : s.busySlots = 0) (hl : ∀ n, (s.lane n).HoldsNothing) :
    { s.reserving with mode := .closed }.beginDrain (drainRequest num) =
      { s with mode := .closed }.queueReply ⟨num, 0x09, .done, .drain .closed 0 0⟩ := by
  unfold State.beginDrain
  rw [if_pos (State.drainCondition_holdsNothing (s := { s.reserving with mode := .closed }) rfl hl),
    State.drainResult_holdsNothing (s := { s.reserving with mode := .closed }) rfl hb hl]
  exact State.answer_ready s { s with mode := .closed } _ _ _ h rfl

end Drain

end Sys2Proof.Machine

open Sys2Proof Sys2Proof.Machine

/-- Settles O45: the report's judgement, and in CLOSED the end of the DRAIN in progress that no lane holds up. -/
theorem closeJudgementTakesOneReport : Obligations.CloseJudgementTakesOneReport := by
  refine fun s => ⟨fun h => congrArg Host.Outcome.next (if_pos h), fun h => ?_⟩
  intro taken
  rw [exec_closeJudgement h]
  refine ⟨fun hopen => congrArg _ (if_neg fun hclose => ?_), fun hm hb => ?_⟩
  · obtain ⟨hm, hb⟩ := hclose
    exact hopen.elim (· hm) (Nat.not_lt_zero _ <| hb ▸ ·)
  · have hreport : taken.takeReport = { taken with mode := .closed }.drainReport := if_pos ⟨hm, hb⟩
    rw [hreport]
    refine ⟨fun hidle => congrArg _ (State.drainReport_idle hidle),
      fun n hn => congrArg _ (State.drainReport_held (State.drainCondition_held (n := n) hn)),
      fun r hp hq hl => ?_⟩
    have hnothing : ∀ n, (s.lane n).HoldsNothing := fun n => ⟨(hl n).1, (hl n).2.1, (hl n).2.2.1, (hl n).2.2.2⟩
    have hsettled : ({ taken with mode := .closed }.lane 0).settled = true :=
      (Lane.settled_iff _).mpr ⟨(hnothing 0).queue, (hnothing 0).sending, (hnothing 0).stopping⟩
    have hends := State.laneReport_ends (z := { taken with mode := .closed }) 0 hp hq rfl hb hnothing
    exact congrArg _ ((if_pos hsettled).symm.trans hends)

/-- Settles O46, mode by mode. -/
theorem drainIsJudgedByTheMode : Obligations.DrainIsJudgedByTheMode := by
  intro s num h working
  rw [exec_drain_ready h]
  refine ⟨fun hm => ?_, fun hm hb => ?_, fun hm hb => ⟨fun n hn => ?_, fun hl => ?_⟩⟩
  · rw [s.reserving.doDrain_refused _ (.inr hm)]
    exact congrArg _ (State.answer_ready s s _ _ _ h rfl)
  · rw [s.reserving.doDrain_open _ hm, State.drainMode, if_neg (show ¬ s.reserving.busySlots = 0 from hb.ne')]
    exact congrArg _ (State.beginDrain_working (drainRequest num) .closing (State.drainCondition_open nofun))
  · rw [State.doDrain_quiet (s := s.reserving) _ hm hb]
    exact congrArg _ (State.beginDrain_working (drainRequest num) .closed (State.drainCondition_held (n := n) hn))
  · rw [State.doDrain_quiet (s := s.reserving) _ hm hb]
    exact congrArg _ (State.beginDrain_done h num hb fun n => ⟨(hl n).1, (hl n).2.1, (hl n).2.2.1, (hl n).2.2.2⟩)

end

section
/-! SUPPORT. What a command makes of the device mode: the events that change it, and the requests that the engine takes in the same step (09 R139 to R143, R146, 08 R122, R132, R133, R138). -/

namespace Sys2Proof.Machine

/-! ### A request taken and the mode (08 R122) -/

section Requests

variable {s t : State} {r : Request}

theorem State.CarriedOut.moves (h : s.CarriedOut r t) : s.RequestMoves r t := by
  cases h with
  | answered e st c heffect ht =>
    rw [ht]
    exact heffect.moves.congr
  | draining m hmoves ht => rwa [ht]

theorem State.CarriedOut.queue_length (h : s.CarriedOut r t) : t.engine.queue.length ≤ s.engine.queue.length := by
  cases h with
  | answered e st c heffect ht =>
    rw [ht]
    exact heffect.queue
  | draining m hmoves ht => rw [ht]; exact le_rfl

theorem State.CarriedOut.startsNoParcel (h : s.CarriedOut r t) : s.StartsNoParcel t := by
  cases h with
  | answered e st c heffect ht =>
    rw [ht]
    exact heffect.parcels.trans (.same rfl)
  | draining m hmoves ht =>
    rw [ht]
    exact .same rfl

/-- In CLOSED no slot is ASSEMBLING or SKIPPING (09 R145). -/
def State.QuietIfClosed (s : State) : Prop := s.mode = .closed → s.busySlots = 0

theorem State.CarriedOut.quietIfClosed (h : s.CarriedOut r t) (hs : s.QuietIfClosed) : t.QuietIfClosed := fun hclosed => by
  cases h.moves with
  | stays hmode => exact h.startsNoParcel.busySlots (hs (hmode.symm.trans hclosed))
  | opens _ hmode => cases hmode.symm.trans hclosed
  | drains _ _ hmode =>
    rcases hmode with hmode | ⟨-, hbusy⟩
    · cases hmode.symm.trans hclosed
    · exact hbusy
  | restarts _ hmode => cases hmode.symm.trans hclosed

end Requests

/-! ### Serving and the mode -/

theorem State.takeRequests_stays {v : State} (n : Nat) (h : v.canTake = false) : State.takeRequests n v = v := by
  cases n with
  | zero => rfl
  | succ n => exact if_neg (Bool.eq_false_iff.mp h)

/-- The state `t` after the engine has served on `s`, or on what a reply has made of it. -/
def State.Served (s t : State) : Prop :=
  ∃ n v, v.mode = s.mode ∧ v.slots = s.slots ∧ v.engine.queue = s.engine.queue ∧ t = State.takeRequests n v

namespace State.Served

variable {s t v : State}

theorem refl : s.Served s := ⟨0, s, rfl, rfl, rfl, rfl⟩

theorem serve (hmode : v.mode = s.mode) (hslots : v.slots = s.slots) (hqueue : v.engine.queue = s.engine.queue) :
    s.Served v.serve := ⟨_, v, hmode, hslots, hqueue, rfl⟩

/-- In STARTING the engine takes nothing (08 R120). -/
theorem mode_starting (h : s.Served t) (hm : s.mode = .starting) : t.mode = s.mode := by
  obtain ⟨n, v, hmode, -, -, rfl⟩ := h
  rw [State.takeRequests_stays n, hmode]
  exact Bool.eq_false_iff.mpr fun hcan => (v.canTake_iff.mp hcan).1 (hmode.trans hm)

theorem mode_idle (h : s.Served t) (hq : s.engine.queue = []) : t.mode = s.mode := by
  obtain ⟨n, v, hmode, -, hqueue, rfl⟩ := h
  rw [State.takeRequests_stays n, hmode]
  exact Bool.eq_false_iff.mpr fun hcan => (v.canTake_iff.mp hcan).2.2.1 (hqueue.trans hq)

theorem started (h : s.Served t) (hs : s.mode ≠ .starting) : t.mode ≠ .starting := by
  obtain ⟨n, v, hmode, -, -, rfl⟩ := h
  refine State.takeRequests_keeps (p := fun z => z.mode ≠ .starting) (fun _ _ hz => ?_) n (by rwa [hmode])
  exact (State.carryOut_carriedOut _ _).moves.started hz

theorem quietIfClosed (h : s.Served t) (hs : s.QuietIfClosed) : t.QuietIfClosed := by
  obtain ⟨n, v, hmode, hslots, -, rfl⟩ := h
  have hv : v.QuietIfClosed := fun hclosed =>
    (StartsNoParcel.same (s := s) hslots).busySlots (hs (hmode.symm.trans hclosed))
  exact State.takeRequests_keeps (fun _ _ hz => (State.carryOut_carriedOut _ _).quietIfClosed hz) n hv

/-- Of a single request that waits, the mode is what that request makes of it. -/
theorem moves {r : Request} (h : s.Served t) (hq : s.engine.queue = [r]) : s.RequestMoves r t := by
  obtain ⟨n, v, hmode, hslots, hqueue, rfl⟩ := h
  have hhead : v.engine.queue = [r] := hqueue.trans hq
  cases n with
  | zero => exact .stays hmode
  | succ n =>
    unfold State.takeRequests
    split
    · let taken : State := { v with engine := { v.engine with queue := [], reserved := true } }
      have htaken : v.takeHead = taken.carryOut r := by unfold State.takeHead; rw [hhead]
      have hcarried := taken.carryOut_carriedOut r
      have hempty : (taken.carryOut r).engine.queue = [] :=
        List.length_eq_zero_iff.mp (Nat.le_zero.mp hcarried.queue_length)
      have hstays : (taken.carryOut r).canTake = false :=
        Bool.eq_false_iff.mpr fun hcan => ((State.canTake_iff _).mp hcan).2.2.1 hempty
      rw [htaken, State.takeRequests_stays n hstays]
      exact hcarried.moves.congr hmode.symm
    · exact .stays hmode

end State.Served

section Reports

variable (s : State)

theorem State.endDrain_served (r : Request) (st : Status) : s.Served (s.endDrain r st) := .serve rfl rfl rfl

theorem State.drainReport_served : s.Served s.drainReport := by
  unfold State.drainReport
  split
  · exact .refl
  · split
    · exact s.endDrain_served _ _
    · exact .refl

theorem State.laneReport_served (n : LaneId) : s.Served (s.laneReport n) := by
  unfold State.laneReport
  split
  · exact s.drainReport_served
  · exact .refl

end Reports

/-! ### The code a command carries (11 R164) -/

/-- The code of the request that a command brings: of a request row, or of the management shard that arrives. -/
def requestCode (i : Instr) : Option Byte :=
  match i with
  | .shardArrival v => if kindBits v = 0b10#2 then some v[10] else none
  | _ => (requestOctets i).map (fun octets => octets.getD 2 0)

theorem requestCode_row {i : Instr} {octets : List Byte} (h : requestOctets i = some octets) :
    requestCode i = some (octets.getD 2 0) := by
  unfold requestCode
  split
  · cases h
  · rw [h]
    rfl

theorem requestOf_code (octets : List Byte) (n : Nat) :
    (requestOf (octets ++ List.replicate n 0)).code = octets.getD 2 0 := by
  show (octets ++ List.replicate n 0).getD 2 0 = octets.getD 2 0
  by_cases hlong : 2 < octets.length
  · exact List.getD_append _ _ _ _ hlong
  · rw [List.getD_append_right _ _ _ _ (Nat.not_lt.mp hlong), List.getD_eq_default _ _ (Nat.not_lt.mp hlong)]
    rw [List.getD_eq_getElem?_getD, List.getElem?_getD_replicate_default_eq]

/-- A shard judged a request is a management shard that carries the request's code in octet 10. -/
theorem State.judgeShard_requestCode {s : State} {v : Vector Byte 64} {r : Request}
    (h : s.judgeShard v.toList = .request r) : requestCode (.shardArrival v) = some r.code := by
  by_cases hsound : headerSound v
  · rw [s.judgeShard_sound hsound] at h
    split at h
    · unfold State.judgeData at h
      split at h
      · split at h <;> cases h
      · cases h
    split at h
    · next hkind =>
      split at h
      · cases h
        show (if kindBits v = 0b10#2 then some v[10] else none) = some (octetAt (v.toList.drop 8) 2)
        rw [if_pos hkind, ← octetAt_toList v 10 (by decide)]
        simp [octetAt, List.getD_eq_getElem?_getD]
      · cases h
    · cases h
  · rw [s.judgeShard_headerFault hsound] at h
    cases h

/-! ### The commands -/

/-- What a command makes of the mode: the events that change it of themselves, and serving behind the rest, on a state `z`
in the mode as it was, with the request that has arrived or without one. -/
inductive State.ModeStep (i : Instr) (s t : State) : Prop
  | resets (hi : i = .resetnAssert) (hmode : t.mode = .starting)
  | starts (hi : i = .endOfStartUp) (hbuilding : s.building = true) (hmode : t.mode = .init)
  | closes (z : State) (hi : i = .closeJudgement) (hfrom : s.mode = .closing) (hmode : z.mode = .closed)
      (hbusy : z.busySlots = 0) (hserved : z.Served t)
  | arrives (z : State) (r : Request) (hcode : requestCode i = some r.code) (hmode : z.mode = s.mode)
      (hqueue : z.engine.queue = s.engine.queue ++ [r]) (hserved : z.Served t)
  | keeps (z : State) (hmode : z.mode = s.mode) (hqueue : z.engine.queue = s.engine.queue) (hserved : z.Served t)

section Commands

variable {i : Instr} {s t z : State}

theorem State.ModeStep.stands (hmode : t.mode = s.mode) (hqueue : t.engine.queue = s.engine.queue) : s.ModeStep i t :=
  .keeps t hmode hqueue .refl

theorem State.EngineKept.modeStep (h : s.EngineKept t) : s.ModeStep i t := .stands h.mode (by rw [h.engine])

theorem State.EngineKept.reports (h : s.EngineKept z) (hserved : z.Served t) : s.ModeStep i t :=
  .keeps z h.mode (by rw [h.engine]) hserved

theorem State.requestArrives_modeStep {r : Request} (hcode : requestCode i = some r.code) :
    s.ModeStep i (s.requestArrives r) := by
  unfold State.requestArrives
  split
  · exact .stands rfl rfl
  unfold State.arrive
  split
  · exact .arrives (s.enqueue r) r hcode rfl rfl (.serve rfl rfl rfl)
  split
  · dsimp only
    split
    · exact .keeps s rfl rfl (.serve rfl rfl rfl)
    · exact .stands rfl rfl
  · exact .stands rfl rfl

theorem State.takeOctets_modeStep (v : Vector Byte 64) : s.ModeStep (.shardArrival v) (s.takeOctets v.toList) := by
  unfold State.takeOctets
  split
  · exact .stands rfl rfl
  next hstarted =>
  split
  · exact .stands rfl rfl
  · next r hverdict =>
    rw [← State.requestArrives_started r hstarted]
    exact State.requestArrives_modeStep (State.judgeShard_requestCode hverdict)
  · next sh _ => exact ((s.takeShard_engineKept sh).trans (State.settleReturns_engineKept _)).modeStep

theorem State.takeReport_modeStep (hmode : z.mode = s.mode) (hqueue : z.engine.queue = s.engine.queue) :
    s.ModeStep .closeJudgement z.takeReport := by
  unfold State.takeReport
  split
  · next hclose =>
    obtain ⟨hclosing, hbusy⟩ := hclose
    exact .closes { z with mode := .closed } rfl (hmode.symm.trans hclosing) rfl hbusy (State.drainReport_served _)
  · exact .stands hmode hqueue

theorem State.expireStall_modeStep (n : LaneId) : s.ModeStep i (s.expireStall n) := by
  unfold State.expireStall
  split
  · split
    · exact .stands rfl rfl
    · exact (s.stallDiscard_engineKept n _ _).reports (State.laneReport_served _ n)
  · exact .stands rfl rfl

theorem State.endReturnShard_modeStep : s.ModeStep i s.endReturnShard := by
  unfold State.endReturnShard
  dsimp only
  split
  · exact .keeps s rfl rfl (.serve rfl rfl rfl)
  · exact .stands rfl rfl
  · exact .stands rfl rfl
  · exact .stands rfl rfl

theorem exec_modeStep (hexec : exec i s = .next t) : s.ModeStep i t := by
  cases hoctets : requestOctets i with
  | some octets =>
    have harrives := exec_request i s _ (congrArg (Option.map _) hoctets)
    cases harrives.symm.trans hexec
    exact State.requestArrives_modeStep ((requestCode_row hoctets).trans (congrArg some (requestOf_code _ _).symm))
  | none =>
    cases i
    case resetnAssert =>
      cases hexec
      exact .resets rfl rfl
    case resetnRelease =>
      cases hexec
      split
      · exact .stands rfl rfl
      · exact .stands rfl rfl
    case endOfStartUp =>
      cases hexec
      split
      · next hbuilding => exact .starts rfl hbuilding (State.raise_mode _ _ _ _ _ _)
      · exact .stands rfl rfl
    case shardArrival v =>
      cases hexec
      exact State.takeOctets_modeStep v
    case closeJudgement =>
      cases hexec
      split
      · exact .stands rfl rfl
      · exact State.takeReport_modeStep rfl rfl
    case grant n w => exact (exec_engineKept (.inl ⟨n, w, rfl⟩) hexec).modeStep
    case emissionEnd n =>
      cases hexec
      split
      · exact .stands rfl rfl
      · exact (s.endEmission_engineKept n _).reports (State.laneReport_served _ n)
    case stallExpiry n =>
      cases hexec
      exact State.expireStall_modeStep n
    case periodExpiry => exact (exec_engineKept (.inr (.inl rfl)) hexec).modeStep
    case scanVisit => exact (exec_engineKept (.inr (.inr rfl)) hexec).modeStep
    case drainTimerExpiry =>
      cases hexec
      split
      · exact .keeps s rfl rfl (s.endDrain_served _ _)
      · exact .stands rfl rfl
    case returnShardEnd =>
      cases hexec
      split
      · exact State.endReturnShard_modeStep
      · exact .stands rfl rfl
    all_goals cases hoctets

namespace State.ModeStep

variable (h : s.ModeStep i t)

include h

theorem into_starting (ht : t.mode = .starting) (hs : s.mode ≠ .starting) : i = .resetnAssert := by
  have hserves : ∀ {z : State}, z.Served t → z.mode = .starting := fun hserved =>
    Decidable.not_not.mp fun hz => hserved.started hz ht
  cases h with
  | resets hi _ => exact hi
  | starts _ _ hmode => cases hmode.symm.trans ht
  | closes z _ _ hmode _ hserved => cases hmode.symm.trans (hserves hserved)
  | arrives z r _ hmode _ hserved => exact absurd (hmode.symm.trans (hserves hserved)) hs
  | keeps z hmode _ hserved => exact absurd (hmode.symm.trans (hserves hserved)) hs

theorem out_of_starting (hs : s.mode = .starting) (ht : t.mode ≠ .starting) : i = .endOfStartUp ∧ t.mode = .init := by
  have hserves : ∀ {z : State}, z.mode = s.mode → z.Served t → t.mode = .starting := fun hmode hserved =>
    (hserved.mode_starting (hmode.trans hs)).trans (hmode.trans hs)
  cases h with
  | resets _ hmode => exact absurd hmode ht
  | starts hi _ hmode => exact ⟨hi, hmode⟩
  | closes z _ hfrom _ _ _ => cases hfrom.symm.trans hs
  | arrives z r _ hmode _ hserved => exact absurd (hserves hmode hserved) ht
  | keeps z hmode _ hserved => exact absurd (hserves hmode hserved) ht

theorem quiet_at_closed (ht : t.mode = .closed) (hs : s.mode ≠ .closed) : t.busySlots = 0 := by
  have hserves : ∀ {z : State}, z.mode = s.mode → z.Served t → t.busySlots = 0 := fun hmode hserved =>
    hserved.quietIfClosed (fun hclosed => absurd (hmode.symm.trans hclosed) hs) ht
  cases h with
  | resets _ hmode => cases hmode.symm.trans ht
  | starts _ _ hmode => cases hmode.symm.trans ht
  | closes z _ _ _ hbusy hserved => exact hserved.quietIfClosed (fun _ => hbusy) ht
  | arrives z r _ hmode _ hserved => exact hserves hmode hserved
  | keeps z hmode _ hserved => exact hserves hmode hserved

variable (hq : s.engine.queue = [])

include hq

theorem into_closed (ht : t.mode = .closed) (hs : s.mode ≠ .closed) :
    i = .closeJudgement ∨ requestCode i = some 0x09 := by
  cases h with
  | resets _ hmode => cases hmode.symm.trans ht
  | starts _ _ hmode => cases hmode.symm.trans ht
  | closes z hi _ _ _ _ => exact .inl hi
  | arrives z r hcode hmode hqueue hserved =>
    cases hserved.moves (by rw [hqueue, hq]; rfl) with
    | stays hstays => exact absurd (hmode.symm.trans (hstays.symm.trans ht)) hs
    | opens _ hopens => cases hopens.symm.trans ht
    | drains hdrain _ _ => exact .inr (hcode.trans (congrArg some hdrain))
    | restarts _ hrestarts => cases hrestarts.symm.trans ht
  | keeps z hmode hqueue hserved =>
    exact absurd (hmode.symm.trans ((hserved.mode_idle (hqueue.trans hq)).symm.trans ht)) hs

theorem out_of_closed (hlaw : s.modeLaw) (hs : s.mode = .closed) (ht : t.mode ≠ .closed) :
    i = .resetnAssert ∧ t.mode = .starting ∨ requestCode i = some 0x08 ∧ t.mode = .run ∨
      requestCode i = some 0x0B ∧ t.mode = .init := by
  cases h with
  | resets hi hmode => exact .inl ⟨hi, hmode⟩
  | starts _ hbuilding _ =>
    obtain ⟨hstarting, -⟩ := hlaw
    cases (hstarting (.inr hbuilding)).symm.trans hs
  | closes z _ hfrom _ _ _ => cases hfrom.symm.trans hs
  | arrives z r hcode hmode hqueue hserved =>
    cases hserved.moves (by rw [hqueue, hq]; rfl) with
    | stays hstays => exact absurd (hstays.trans (hmode.trans hs)) ht
    | opens hopen hopens => exact .inr (.inl ⟨hcode.trans (congrArg some hopen), hopens⟩)
    | drains _ hfrom _ => exact absurd (hmode.trans hs) hfrom
    | restarts hrestart hrestarts => exact .inr (.inr ⟨hcode.trans (congrArg some hrestart), hrestarts⟩)
  | keeps z hmode hqueue hserved => exact absurd ((hserved.mode_idle (hqueue.trans hq)).trans (hmode.trans hs)) ht

end State.ModeStep

end Commands

end Sys2Proof.Machine

open Sys2Proof Sys2Proof.Machine

/-- Settles O17: of what a command does before the engine serves (`exec_modeStep`) and of the single request taken then
(`State.Served.moves`), each clause keeps the cases that can lead there. -/
theorem modeChangesOnlyByItsEvents : Obligations.ModeChangesOnlyByItsEvents := by
  intro i s t hexec
  have h := exec_modeStep hexec
  exact ⟨h.into_starting, h.out_of_starting, h.quiet_at_closed, fun _ hq => h.into_closed hq,
    fun hlaw hq => h.out_of_closed hq hlaw, fun hi => (exec_engineKept hi hexec).mode⟩

end

section
/-! SUPPORT. What no operation of a step touches: RESETN and the build of start-up, which change by their own events alone, and the commands waiting outside the part (09 R140, log entry 2). -/

namespace Sys2Proof.Machine

/-- The commands waiting outside the part, whether RESETN is asserted, and whether the build of start-up runs. -/
def State.outer (s : State) : List Instr × Bool × Bool := (s.pending, s.resetn, s.building)

/-! ### The tables, notices and the store -/

section Writes

variable (s : State)

@[simp] theorem State.outer_setSlot (k : SlotId) (v : Slot) : (s.setSlot k v).outer = s.outer := rfl
@[simp] theorem State.outer_setCls (c : ClassId) (a : ClassAccount) : (s.setCls c a).outer = s.outer := rfl
@[simp] theorem State.outer_setLane (n : LaneId) (l : Lane) : (s.setLane n l).outer = s.outer := rfl
@[simp] theorem State.outer_bumpDrop (c : DropCounter) : (s.bumpDrop c).outer = s.outer := rfl
@[simp] theorem State.outer_bumpParcel (c : ParcelCounter) : (s.bumpParcel c).outer = s.outer := rfl
@[simp] theorem State.outer_bumpLane (n : LaneId) (c : LaneCounter) (m : Nat) : (s.bumpLane n c m).outer = s.outer := rfl
@[simp] theorem State.outer_bumpDevice (c : DeviceCounter) : (s.bumpDevice c).outer = s.outer := rfl
@[simp] theorem State.outer_signalParcelEnd (t : ThreadId) : (s.signalParcelEnd t).outer = s.outer := rfl
@[simp] theorem State.outer_answer (r : Request) (st : Status) (c : ReplyResult) : (s.answer r st c).outer = s.outer := rfl
@[simp] theorem State.outer_decline (r : Request) (st : Status) : (s.decline r st).outer = s.outer := rfl

@[simp] theorem State.outer_raise (kind : NoticeKind) (t : Option ThreadId) (g : Option Tag) (n : Option LaneId)
    (c : Option (BitVec 16)) : (s.raise kind t g n c).outer = s.outer := by
  simp [State.outer]

@[simp] theorem State.outer_dropOrphan (t : ThreadId) : (s.dropOrphan t).outer = s.outer := by
  simp [State.outer]

@[simp] theorem State.outer_rejudge (c : ClassId) : (s.rejudge c).outer = s.outer := by
  simp [State.outer]

@[simp] theorem State.outer_settleReturns : s.settleReturns.outer = s.outer := by
  simp [State.outer]

@[simp] theorem State.outer_rebuildStore : s.rebuildStore.outer = s.outer := by
  simp [State.outer]

@[simp] theorem State.outer_returnChain (chain : List UnitNo) : (s.returnChain chain).outer = s.outer := by
  simp [State.outer]

@[simp] theorem State.outer_releaseSlot (k : SlotId) : (s.releaseSlot k).outer = s.outer := by
  simp [State.outer]

@[simp] theorem State.outer_poison (k : SlotId) (t : ThreadId) (stamp : PeriodNo) (held : List UnitNo)
    (g : Option Tag) (r : PoisonReason) : (s.poison k t stamp held g r).outer = s.outer := by
  simp [State.outer]

@[simp] theorem State.outer_discardPlaced (placed : List UnitNo) (kind : NoticeKind) (c : ParcelCounter)
    (t : ThreadId) (g : Option Tag) (n : Option LaneId) : (s.discardPlaced placed kind c t g n).outer = s.outer := by
  simp [State.discardPlaced]

theorem State.outer_claim {z : State} {c : ClassId} {payload : List Byte} {u : UnitNo}
    (h : s.claim c payload = .taken u z) : z.outer = s.outer := by
  obtain ⟨-, rest, -, rfl⟩ := (s.claim_taken_iff z c payload u).mp h
  simp [State.outer]

end Writes

theorem State.outer_foldl {α : Type} {f : State → α → State} (hf : ∀ (z : State) (a : α), (f z a).outer = z.outer)
    (as : List α) (s : State) : (as.foldl f s).outer = s.outer :=
  foldl_keeps (p := fun z => z.outer = s.outer) (fun z a h => (hf z a).trans h) as rfl

/-! ### The Slot Table (01, 02) -/

section SlotTable

variable (s : State) (k : SlotId) (t : ThreadId) (stamp : PeriodNo)

@[simp] theorem State.outer_dropEntries (es : List EarlyEntry) (c : DropCounter) :
    (s.dropEntries es c).outer = s.outer :=
  (State.outer_foldl (f := fun z _ => z.bumpDrop c) (fun z _ => z.outer_bumpDrop c) es _).trans (s.outer_returnChain _)

@[simp] theorem State.outer_orphanEntries (es : List EarlyEntry) : (s.orphanEntries t es).outer = s.outer :=
  (State.outer_foldl (f := fun z _ => z.dropOrphan t) (fun z _ => z.outer_dropOrphan t) es _).trans
    (s.outer_returnChain _)

@[simp] theorem State.outer_restOrFree (x : Seq) : (s.restOrFree k t stamp x).outer = s.outer := by
  unfold State.restOrFree
  split <;> rfl

@[simp] theorem State.outer_sealParcel (a : Assembly) (e : EarlyEntry) : (s.sealParcel t a e).outer = s.outer := by
  unfold State.sealParcel
  dsimp only
  split
  · split
    · next z hz =>
      unfold State.offer at hz
      split at hz <;> cases hz
      rfl
    · exact s.outer_discardPlaced _ _ _ _ _ _
  · exact s.outer_discardPlaced _ _ _ _ _ _

@[simp] theorem State.outer_nextParcel (x : Seq) (early : List EarlyEntry) :
    (s.nextParcel k t stamp x early).state.outer = s.outer := by
  unfold State.nextParcel
  split
  · rfl
  · exact s.outer_poison _ _ _ _ _ _

/-- The end of a parcel behind its seal or discard, row by row (02 R39 to R41). -/
@[simp] theorem State.outer_finishParcel (x : Seq) (held : List EarlyEntry) :
    (s.finishParcel k t stamp x held).state.outer = s.outer := by
  cases hp : (s.thread t).pending with
  | some c => simp [s.finishParcel_displaces k t stamp x held hp, Placed.state]
  | none =>
    cases hr : (s.thread t).active.retain && (s.thread t).active.enabled with
    | false => simp [s.finishParcel_orphans k t stamp x held hp hr, Placed.state]
    | true =>
      by_cases hne : held = []
      · simp [hne, s.finishParcel_empty k t stamp x hp, Placed.state]
      · by_cases hm : s.mode = .closing
        · simp [s.finishParcel_closing k t stamp x held hp hr hne hm, Placed.state]
        · simp [s.finishParcel_next k t stamp x held hp hr hne hm]

@[simp] theorem State.outer_placePassed (a : Assembly) (e : EarlyEntry) :
    (s.placePassed k t stamp a e).state.outer = s.outer := by
  unfold State.placePassed
  dsimp only
  split
  · simp
  · rfl

@[simp] theorem State.outer_restartParcel (a : Assembly) (e : EarlyEntry) (p : Nat) :
    (s.restartParcel t a e p).2.outer = s.outer := by
  simp [State.restartParcel]

@[simp] theorem State.outer_placeShard (a : Assembly) (e : EarlyEntry) :
    (s.placeShard k t stamp a e).state.outer = s.outer := by
  unfold State.placeShard
  split
  · split
    · exact s.outer_placePassed _ _ _ _ _
    · exact s.outer_poison _ _ _ _ _ _
  split
  · simp
  split
  · exact s.outer_placePassed _ _ _ _ _
  · exact s.outer_poison _ _ _ _ _ _

@[simp] theorem State.outer_drainEarly (n : Nat) (a : Assembly) :
    (State.drainEarly k t stamp n a s).outer = s.outer := by
  induction n generalizing a s with
  | zero => rfl
  | succ n ih =>
    unfold State.drainEarly
    split
    · rfl
    next e rest _ =>
    split
    · have hplaced := s.outer_placeShard k t stamp { a with early := rest } e
      split
      · next hz => rwa [hz] at hplaced
      · next hz =>
        rw [hz] at hplaced
        exact (ih _ _).trans hplaced
    · rfl

@[simp] theorem State.outer_placeAndDrain (a : Assembly) (e : EarlyEntry) :
    (s.placeAndDrain k t stamp a e).outer = s.outer := by
  have hplaced := s.outer_placeShard k t stamp a e
  unfold State.placeAndDrain
  split
  · next hz => rwa [hz] at hplaced
  · next hz =>
    rw [hz] at hplaced
    exact (State.outer_drainEarly _ _ _ _ _ _).trans hplaced

variable (sh : DataShard)

@[simp] theorem State.outer_startParcel : (s.startParcel k sh).outer = s.outer := by
  unfold State.startParcel
  dsimp only
  split
  · exact s.outer_poison _ _ _ _ _ _
  next hz =>
  split
  · exact (State.outer_poison _ _ _ _ _ _ _).trans (s.outer_claim hz)
  · exact (State.outer_placeAndDrain _ _ _ _ _ _).trans (s.outer_claim hz)

@[simp] theorem State.outer_evict : (s.evict k).outer = s.outer := by
  unfold State.evict
  split <;> rfl

@[simp] theorem State.outer_takeUnbound : (s.takeUnbound sh).outer = s.outer := by
  have hbinds : ∀ (z : State) j, (z.bindSlot j sh).outer = z.outer := fun z j => State.outer_startParcel _ j sh
  unfold State.takeUnbound
  split
  · split
    · exact hbinds s _
    · split
      · exact (hbinds _ _).trans (s.outer_evict _)
      · exact State.outer_raise _ _ _ _ _ _
  · exact s.outer_dropOrphan _

@[simp] theorem State.outer_judgeResting (x : Seq) : (s.judgeResting k x sh).outer = s.outer := by
  have hpoison := fun g r => s.outer_poison k sh.thread s.aging.periodNo [] g r
  unfold State.judgeResting
  dsimp only
  split
  · split
    · exact s.outer_startParcel k sh
    · exact hpoison _ _
  split
  · rfl
  split
  · exact hpoison _ _
  split
  · exact hpoison _ _
  split
  · exact hpoison _ _
  split
  · exact hpoison _ _
  · next hz => exact (State.outer_setSlot _ k _).trans (s.outer_claim hz)

@[simp] theorem State.outer_judgeAssembling (a : Assembly) : (s.judgeAssembling k a sh).outer = s.outer := by
  have hpoison := fun g r => s.outer_poison k sh.thread s.aging.periodNo a.units g r
  unfold State.judgeAssembling
  dsimp only
  split
  · rfl
  split
  · exact hpoison _ _
  split
  · rfl
  split
  · split
    · split
      · exact hpoison _ _
      · next hz => exact (State.outer_setSlot _ k _).trans (s.outer_claim hz)
    · exact s.outer_dropOrphan _
  split
  · exact hpoison _ _
  split
  · exact hpoison _ _
  split
  · exact hpoison _ _
  next hz =>
  split
  · exact (State.outer_placeAndDrain _ _ _ _ _ _).trans (s.outer_claim hz)
  · exact (State.outer_setSlot _ k _).trans (s.outer_claim hz)

@[simp] theorem State.outer_endSkip (x : Seq) : (s.endSkip k t x).outer = s.outer := by
  unfold State.endSkip
  dsimp only
  split <;> rfl

@[simp] theorem State.outer_judgeSkipping (g : Option Tag) : (s.judgeSkipping k g sh).outer = s.outer := by
  unfold State.judgeSkipping
  split
  · split
    · exact State.outer_endSkip _ k _ _
    · rfl
  split
  · unfold State.endSkipOnF
    dsimp only
    split
    · exact State.outer_startParcel _ k sh
    · rfl
  split
  · exact State.outer_endSkip _ k _ _
  · rfl

@[simp] theorem State.outer_takeShard : (s.takeShard sh).outer = s.outer := by
  unfold State.takeShard
  split
  · exact s.outer_takeUnbound sh
  dsimp only
  split
  · exact s.outer_takeUnbound sh
  · exact State.outer_judgeResting _ _ sh _
  · exact State.outer_judgeAssembling _ _ sh _
  · exact State.outer_judgeSkipping _ _ sh _

end SlotTable

/-! ### Lanes, scan and CUT -/

section Lanes

variable (s : State)

@[simp] theorem State.outer_takeGrant (n : LaneId) (g : Nat) : (s.takeGrant n g).outer = s.outer := by
  unfold State.takeGrant
  dsimp only
  split <;> rfl

@[simp] theorem State.outer_endEmission (n : LaneId) (d : Descriptor) : (s.endEmission n d).outer = s.outer := by
  simp [State.endEmission]

@[simp] theorem State.outer_stallDiscard (n : LaneId) (d : Descriptor) (rest : List Descriptor) :
    (s.stallDiscard n d rest).outer = s.outer := by
  simp [State.stallDiscard]

@[simp] theorem State.outer_flushLane (n : LaneId) : (s.flushLane n).outer = s.outer := by
  have hreturned : (s.flushed n).outer = s.outer :=
    State.outer_foldl (f := fun (z : State) (d : Descriptor) => z.returnChain d.units)
      (fun z d => z.outer_returnChain d.units) _ _
  by_cases hq : (s.lane n).queue = []
  · simp [State.flushLane_empty hq, hreturned]
  · simp [State.flushLane_nonempty hq, hreturned]

@[simp] theorem State.outer_visit (k : SlotId) : (s.visit k).outer = s.outer := by
  have hreaps : ∀ t stamp, (s.reapIfOld k t stamp).outer = s.outer := fun t stamp => by
    unfold State.reapIfOld
    split
    · simp [State.reap]
    · rfl
  unfold State.visit
  split
  · rfl
  · rfl
  · exact hreaps _ _
  · exact hreaps _ _

@[simp] theorem State.outer_oweScan : s.oweScan.outer = s.outer := by
  unfold State.oweScan
  split
  · rfl
  · split <;> rfl

end Lanes

theorem State.outer_cutSkipThread (p : State × Nat) (t : ThreadId) : (State.cutSkipThread p t).1.outer = p.1.outer := by
  unfold State.cutSkipThread
  split
  · rfl
  split
  · rfl
  · rfl
  · rfl
  · exact State.outer_poison _ _ _ _ _ _ _

theorem State.outer_cutReleaseThread (p : State × Nat × Nat) (t : ThreadId) :
    (State.cutReleaseThread p t).1.outer = p.1.outer := by
  unfold State.cutReleaseThread
  split
  · rfl
  dsimp only
  split
  · simp
  · exact State.outer_releaseSlot _ _

/-! ### Requests (08 R123) -/

section Requests

variable (s : State) (r : Request)

@[simp] theorem State.outer_doWriteSetting : (s.doWriteSetting r).outer = s.outer := by
  have hquota : ∀ c v, (s.doWriteQuota r c v).outer = s.outer := fun c v => by
    unfold State.doWriteQuota
    split <;> rfl
  have hwarn : ∀ c v, (s.doWriteWarn r c v).outer = s.outer := fun c v => by
    unfold State.doWriteWarn
    split <;> simp
  unfold State.doWriteSetting
  dsimp only
  split
  · rfl
  · rfl
  · unfold State.doWriteController; split <;> rfl
  · unfold State.doWritePeriod; split <;> rfl
  · unfold State.doWriteDrainLimit; split <;> rfl
  · exact hquota _ _
  · exact hquota _ _
  · exact hquota _ _
  · exact hquota _ _
  · exact hwarn _ _
  · exact hwarn _ _
  · exact hwarn _ _
  · exact hwarn _ _
  · unfold State.doWriteHysteresis
    split
    · exact (State.outer_answer _ _ _ _).trans (State.outer_foldl State.outer_rejudge classIds _)
    · rfl
  · unfold State.doWriteNoticeMask; split <;> rfl
  · rfl
  · rfl
  · rfl
  · rfl
  · rfl
  · rfl

@[simp] theorem State.outer_doWriteThread : (s.doWriteThread r).outer = s.outer := by
  unfold State.doWriteThread
  split
  · unfold State.writeThread
    split
    · rfl
    split
    · rfl
    · split <;> rfl
    · rfl
    · rfl
  · rfl

@[simp] theorem State.outer_doCut : (s.doCut r).outer = s.outer := by
  unfold State.doCut
  split
  · next ts _ _ =>
    have hcut := foldl_keeps (p := fun p : State × Nat => p.1.outer = s.outer)
      (fun p t h => (State.outer_cutSkipThread p t).trans h) ts (b := (s, 0)) rfl
    simpa using hcut
  · next ts _ _ =>
    have hcut := foldl_keeps (p := fun p : State × Nat × Nat => p.1.outer = s.outer)
      (fun p t h => (State.outer_cutReleaseThread p t).trans h) ts (b := (s, 0, 0)) rfl
    simpa using hcut
  · rfl

@[simp] theorem State.outer_doLane : (s.doLane r).outer = s.outer := by
  unfold State.doLane
  split
  · rfl
  · rfl
  · exact (State.outer_answer _ _ _ _).trans (s.outer_flushLane _)
  · rfl

@[simp] theorem State.outer_doReadCounters : (s.doReadCounters r).outer = s.outer := by
  unfold State.doReadCounters
  dsimp only
  split
  · split <;> rfl
  · split <;> rfl
  · split
    · rfl
    · split <;> rfl
  · split <;> rfl
  · rfl

@[simp] theorem State.outer_judgeClose : s.judgeClose.outer = s.outer := by
  unfold State.judgeClose
  split <;> rfl

@[simp] theorem State.outer_beginDrain : (s.beginDrain r).outer = s.outer := by
  unfold State.beginDrain
  split <;> rfl

@[simp] theorem State.outer_doDrain : (s.doDrain r).outer = s.outer := by
  unfold State.doDrain
  split
  · rfl
  · rfl
  · exact (State.outer_beginDrain _ _).trans (State.outer_judgeClose _)
  · exact (State.outer_beginDrain _ _).trans (State.outer_judgeClose _)
  · exact s.outer_beginDrain r

/-- The steps of a restart leave RESETN and start-up alone (09 R146). -/
theorem State.outer_rebuiltCleared (aging : Aging) (threads : Vector ThreadEntry 1024) :
    (s.cleared aging threads).rebuildStore.outer = s.outer := by
  obtain ⟨lanes, counts, i, h⟩ := s.restartLanes_eq_withLanes
  rw [State.outer_rebuildStore, State.cleared, h]
  rfl

@[simp] theorem State.outer_endTraffic : s.endTraffic.outer = s.outer := rfl
@[simp] theorem State.outer_endFull : s.endFull.outer = s.outer := rfl

@[simp] theorem State.outer_restartTraffic : s.restartTraffic.outer = s.outer := by
  rw [State.restartTraffic_eq, State.outer_endTraffic, State.outer_rebuiltCleared]

@[simp] theorem State.outer_restartFull : s.restartFull.outer = s.outer := by
  rw [State.restartFull_eq, State.outer_endFull, State.outer_rebuiltCleared]
  rfl

@[simp] theorem State.outer_doRestart : (s.doRestart r).outer = s.outer := by
  unfold State.doRestart
  split
  · rw [State.outer_decline, State.outer_restartTraffic]
  · rw [State.outer_decline, State.outer_restartFull]
  · rfl

/-- No request touches RESETN, the build of start-up or the commands waiting. -/
@[simp] theorem State.outer_carryOut : (s.carryOut r).outer = s.outer := by
  unfold State.carryOut
  split
  · rfl
  · unfold State.doReadSetting; split <;> rfl
  · exact s.outer_doWriteSetting r
  · unfold State.doReadThread; split <;> rfl
  · exact s.outer_doWriteThread r
  · unfold State.doReadSlot; split <;> rfl
  · exact s.outer_doCut r
  · exact s.outer_doLane r
  · rfl
  · exact s.outer_doDrain r
  · exact s.outer_doReadCounters r
  · exact s.outer_doRestart r

end Requests

end Sys2Proof.Machine
end

section
/-! SUPPORT. The law of the modes, which every command keeps: a parcel starts in RUN and CLOSING only, and a mode without parcels is entered with none in progress or with every slot freed (09 R140 to R146). -/

namespace Sys2Proof.Machine

/-! ### Quiet modes (09 R145) -/

/-- In STARTING, INIT and CLOSED no slot is ASSEMBLING or SKIPPING (09 R145). -/
def State.Quiet (s : State) : Prop := s.mode = .starting ∨ s.mode = .init ∨ s.mode = .closed → s.busySlots = 0

section Quiet

variable {s v : State} {r : Request}

theorem State.Quiet.kept (h : s.Quiet) (hmode : v.mode = s.mode) (hparcels : s.StartsNoParcel v) : v.Quiet :=
  fun hquiet => hparcels.busySlots (h (hmode ▸ hquiet))

/-- In RUN and CLOSING parcels may be in progress. -/
theorem State.Quiet.of_open (h : s.mode = .run ∨ s.mode = .closing) : s.Quiet := by
  rcases h with h | h <;> simp [State.Quiet, h]

theorem State.Quiet.of_freed (h : s.slots = Vector.replicate 96 .free) : s.Quiet := fun _ =>
  s.busySlots_eq_zero_iff.mpr fun k => congrArg Slot.busy (s.slot_replicate h k)

/-- A restart frees every slot (09 R146). -/
theorem State.Quiet.doRestart (h : s.Quiet) : (s.doRestart r).Quiet := by
  unfold State.doRestart
  split
  · rw [State.restartTraffic_eq]
    have hfreed := (s.rebuildStore_restartedTo s.aging.restart (s.threads.map ThreadEntry.restart)).slots
    generalize (s.cleared _ _).rebuildStore = z at hfreed ⊢
    exact .of_freed hfreed
  · rw [State.restartFull_eq]
    have hfreed := (s.held.rebuildStore_restartedTo { s.aging with period := 1000 }.restart
      (Vector.replicate 1024 ThreadEntry.default)).slots
    generalize (s.held.cleared _ _).rebuildStore = z at hfreed ⊢
    exact .of_freed hfreed
  · exact h

theorem State.carryOut_restart (hcode : r.code = 0x0B) : s.carryOut r = s.doRestart r := by
  unfold State.carryOut
  rw [hcode]
  rfl

/-- A request carried out starts no parcel where it leaves the mode; OPEN and DRAIN lead to RUN and CLOSING, a DRAIN to
CLOSED only with no slot ASSEMBLING or SKIPPING, and a restart frees every slot (08 R132, R133, R138). -/
theorem State.Quiet.carryOut (h : s.Quiet) : (s.carryOut r).Quiet := by
  have hcarried := s.carryOut_carriedOut r
  cases hcarried.moves with
  | stays hmode => exact h.kept hmode hcarried.startsNoParcel
  | opens _ hmode => exact .of_open (.inl hmode)
  | drains _ _ hmode =>
    rcases hmode with hclosing | ⟨-, hbusy⟩
    · exact .of_open (.inr hclosing)
    · exact fun _ => hbusy
  | restarts hcode _ =>
    rw [State.carryOut_restart hcode]
    exact h.doRestart

end Quiet

/-! ### The law between operations -/

section Kept

variable {s v : State}

theorem State.modeLaw_iff (s : State) : s.modeLaw ↔
    (s.resetn = true ∨ s.building = true → s.mode = .starting) ∧ ¬ (s.resetn = true ∧ s.building = true) ∧ s.Quiet :=
  Iff.rfl

theorem State.modeLaw.quiet (h : s.modeLaw) : s.Quiet := by
  obtain ⟨-, -, hquiet⟩ := h
  exact hquiet

theorem State.outer_eq_iff : v.outer = s.outer ↔ v.pending = s.pending ∧ v.resetn = s.resetn ∧ v.building = s.building := by
  simp [State.outer]

/-- What leaves the mode, RESETN and the build, and starts no parcel. -/
theorem State.modeLaw.kept (h : s.modeLaw) (hparcels : s.StartsNoParcel v) (hmode : v.mode = s.mode := by simp)
    (houter : v.outer = s.outer := by simp) : v.modeLaw := by
  obtain ⟨hstarting, hapart, hquiet⟩ := s.modeLaw_iff.mp h
  obtain ⟨-, hresetn, hbuilding⟩ := State.outer_eq_iff.mp houter
  rw [State.modeLaw_iff, hresetn, hbuilding, hmode]
  exact ⟨hstarting, hapart, hquiet.kept hmode hparcels⟩

/-- What leaves every slot too. -/
theorem State.modeLaw.same (h : s.modeLaw) (hslots : v.slots = s.slots := by simp) (hmode : v.mode = s.mode := by simp)
    (houter : v.outer = s.outer := by simp) : v.modeLaw :=
  h.kept (.same hslots) hmode houter

/-- Outside STARTING RESETN is released and no build runs: there the law asks for quiet modes alone (09 R140). -/
theorem State.modeLaw.started (h : s.modeLaw) (hs : s.mode ≠ .starting) (houter : v.outer = s.outer) (hv : v.Quiet) :
    v.modeLaw := by
  obtain ⟨hstarting, hapart, -⟩ := h
  obtain ⟨-, hresetn, hbuilding⟩ := State.outer_eq_iff.mp houter
  rw [State.modeLaw_iff, hresetn, hbuilding]
  exact ⟨fun hstart => absurd (hstarting hstart) hs, hapart, hv⟩

end Kept

/-! ### The engine (08 R121, R122, R134 to R136) -/

section Engine

variable {s : State}

theorem State.modeLaw.serve (h : s.modeLaw) : s.serve.modeLaw :=
  State.takeRequests_keeps (p := State.modeLaw)
    (fun {v _ rest} hcan _ hv => by
      obtain ⟨hstarted, -⟩ := v.canTake_iff.mp hcan
      have htaken : ({ v with engine := { v.engine with queue := rest, reserved := true } } : State).modeLaw :=
        hv.same rfl rfl rfl
      exact htaken.started hstarted (State.outer_carryOut _ _) htaken.quiet.carryOut)
    s.engine.queue.length h

theorem State.modeLaw.arrive (h : s.modeLaw) (r : Request) : (s.arrive r).modeLaw := by
  unfold State.arrive
  split
  · exact State.modeLaw.serve (h.same rfl rfl rfl)
  split
  · dsimp only
    split
    · exact State.modeLaw.serve (h.same rfl rfl rfl)
    · exact h.same rfl rfl rfl
  · exact h.same

theorem State.modeLaw.requestArrives (h : s.modeLaw) (r : Request) : (s.requestArrives r).modeLaw := by
  unfold State.requestArrives
  split
  · exact h
  · exact h.arrive r

theorem State.modeLaw.endDrain (h : s.modeLaw) (r : Request) (st : Status) : (s.endDrain r st).modeLaw :=
  State.modeLaw.serve (h.same rfl rfl rfl)

theorem State.modeLaw.drainReport (h : s.modeLaw) : s.drainReport.modeLaw := by
  unfold State.drainReport
  split
  · exact h
  split
  · exact h.endDrain _ _
  · exact h

theorem State.modeLaw.laneReport (h : s.modeLaw) (n : LaneId) : (s.laneReport n).modeLaw := by
  unfold State.laneReport
  split
  · exact h.drainReport
  · exact h

end Engine

/-! ### Events -/

section Events

variable {s : State}

/-- A release of RESETN begins the build: STARTING goes on (09 R140). -/
theorem State.modeLaw.release (h : s.modeLaw) (hresetn : s.resetn = true) :
    ({ s with resetn := false, building := true } : State).modeLaw := by
  obtain ⟨hstarting, -, hquiet⟩ := h
  exact ⟨fun _ => hstarting (.inl hresetn), fun hboth => Bool.false_ne_true hboth.1, hquiet⟩

/-- The build ends in INIT with RESETN released, and no parcel was in progress in STARTING (09 R140, R141). -/
theorem State.modeLaw.endStartUp (h : s.modeLaw) (hbuilding : s.building = true) : s.endStartUp.modeLaw := by
  obtain ⟨hstarting, hapart, hquiet⟩ := h
  have hreleased : s.resetn = false := Bool.eq_false_iff.mpr fun hresetn => hapart ⟨hresetn, hbuilding⟩
  have hbuilt : s.built.modeLaw := by
    refine ⟨fun hstart => ?_, fun hboth => Bool.false_ne_true hboth.2, fun _ => hquiet (.inl (hstarting (.inr hbuilding)))⟩
    rcases hstart with hresetn | hbuild
    · exact absurd (hreleased.symm.trans hresetn) Bool.false_ne_true
    · exact absurd hbuild Bool.false_ne_true
  have hraised : (s.built.raise .started none none none none).modeLaw := hbuilt.same
  rw [State.endStartUp_eq]
  exact hraised.same rfl rfl rfl

/-- Data shards reach the Slot Table in RUN and CLOSING alone (07 R115). -/
theorem State.judgeShard_data_open {octets : List Byte} {sh : DataShard} (h : s.judgeShard octets = .data sh) :
    s.mode = .run ∨ s.mode = .closing := by
  have hpasses : s.modePasses sh = true := by
    unfold State.judgeShard State.judgeData at h
    dsimp only at h
    split_ifs at h with _ _ _ hpasses _
    cases h
    exact hpasses
  unfold State.modePasses at hpasses
  split at hpasses
  · cases hpasses
  · cases hpasses
  · next hrun => exact .inl hrun
  · next hclosing => exact .inr hclosing
  · cases hpasses

theorem State.modeLaw.takeOctets (h : s.modeLaw) (octets : List Byte) : (s.takeOctets octets).modeLaw := by
  unfold State.takeOctets
  split
  · exact h
  next hstarted =>
  split
  · exact h.same
  · exact h.arrive _
  · next sh hdata =>
    have hmode := ((s.takeShard_engineKept sh).trans (State.settleReturns_engineKept _)).mode
    refine h.started hstarted (by simp) (.of_open ?_)
    rw [hmode]
    exact State.judgeShard_data_open hdata

/-- The close judgement enters CLOSED with no slot ASSEMBLING or SKIPPING (09 R143). -/
theorem State.modeLaw.takeReport (h : s.modeLaw) : s.takeReport.modeLaw := by
  unfold State.takeReport
  split
  · next hclose =>
    obtain ⟨hclosing, hbusy⟩ := hclose
    have hclosed : ({ s with mode := .closed } : State).modeLaw :=
      h.started (by rw [hclosing]; nofun) rfl fun _ => hbusy
    exact hclosed.drainReport
  · exact h

theorem State.modeLaw.takeGrant (h : s.modeLaw) (n : LaneId) (g : Nat) : (s.takeGrant n g).modeLaw := by
  refine h.same ?_ (s.takeGrant_engineKept n g).mode
  unfold State.takeGrant
  dsimp only
  split <;> rfl

theorem State.modeLaw.expireStall (h : s.modeLaw) (n : LaneId) : (s.expireStall n).modeLaw := by
  unfold State.expireStall
  split
  · split
    · exact h
    · exact (h.same (by simp [State.stallDiscard]) (s.stallDiscard_engineKept n _ _).mode).laneReport n
  · exact h

theorem State.modeLaw.oweScan (h : s.modeLaw) : s.oweScan.modeLaw := by
  refine h.same ?_ s.oweScan_engineKept.mode
  unfold State.oweScan
  split
  · rfl
  · split <;> rfl

/-- A visit ends a parcel at most (05 R85, R86). -/
theorem State.visit_startsNoParcel (k : SlotId) : s.StartsNoParcel (s.visit k) := by
  have hreaps : ∀ t stamp, s.StartsNoParcel (s.reapIfOld k t stamp) := fun t stamp => by
    unfold State.reapIfOld
    split
    · exact (s.releaseSlot_startsNoParcel k).trans (.same (by simp [State.reap]))
    · exact .same rfl
  unfold State.visit
  split
  · exact .same rfl
  · exact .same rfl
  · exact hreaps _ _
  · exact hreaps _ _

theorem State.modeLaw.endReturnShard (h : s.modeLaw) : s.endReturnShard.modeLaw := by
  have hchosen := h.same (v := State.arbitrate { s with ret := { s.ret with onLink := none } }) rfl rfl rfl
  unfold State.endReturnShard
  dsimp only
  split
  · exact hchosen.serve
  · exact hchosen
  · exact hchosen
  · exact hchosen

/-- Every command keeps the law of the modes. -/
theorem exec_modeLaw {i : Instr} {t : State} (hexec : exec i s = .next t) (h : s.modeLaw) : t.modeLaw := by
  have hrequest : ∀ r, exec i s = .next (s.requestArrives r) → t.modeLaw := fun r hr => by
    cases hr.symm.trans hexec
    exact h.requestArrives r
  cases i
  case resetnAssert =>
    cases hexec
    exact State.reset_modeLaw
  case resetnRelease =>
    cases hexec
    split
    · next hresetn => exact h.release hresetn
    · exact h
  case endOfStartUp =>
    cases hexec
    split
    · next hbuilding => exact h.endStartUp hbuilding
    · exact h
  case shardArrival v =>
    cases hexec
    exact h.takeOctets _
  case closeJudgement =>
    cases hexec
    split
    · exact h
    · exact State.modeLaw.takeReport (h.same rfl rfl rfl)
  case grant n w =>
    cases hexec
    split
    · exact h
    · exact h.takeGrant n _
  case emissionEnd n =>
    cases hexec
    split
    · exact h
    · exact (h.same (by simp [State.endEmission]) (s.endEmission_engineKept n _).mode).laneReport n
  case stallExpiry n =>
    cases hexec
    exact h.expireStall n
  case periodExpiry =>
    cases hexec
    split
    · exact State.modeLaw.oweScan (h.same rfl rfl rfl)
    · exact h
  case scanVisit =>
    cases hexec
    split
    · exact h
    · next k _ =>
      exact (h.kept (State.visit_startsNoParcel k) (s.visit_engineKept k).mode).same rfl rfl rfl
  case drainTimerExpiry =>
    cases hexec
    split
    · exact h.endDrain _ _
    · exact h
  case returnShardEnd =>
    cases hexec
    split
    · exact h.endReturnShard
    · exact h
  all_goals exact hrequest _ rfl

end Events

end Sys2Proof.Machine

open Sys2Proof Sys2Proof.Machine

/-- Settles O9: the state after reset meets the law, and a command at the front of the queue keeps it (`exec_modeLaw`). -/
theorem stepKeepsModeLaw : Obligations.StepKeepsModeLaw := by
  refine ⟨State.reset_modeLaw, fun s t hstep h => ?_⟩
  unfold step at hstep
  split at hstep
  · cases hstep
    exact h
  · exact exec_modeLaw hstep h

/-- Settles O14: but for the octets, the commands waiting and the index of free values, which it keeps, RESETN_ASSERT
leaves the state after reset (`resetHoldsTheResetnValues`). -/
theorem resetnAssertTakesResetnValues : Obligations.ResetnAssertTakesResetnValues := by
  intro s
  obtain ⟨hreset, -, -⟩ := resetHoldsTheResetnValues
  exact ⟨s.resetAll, rfl, hreset, rfl, rfl⟩

end

section
/-! SUPPORT. The octets of the return shards by the tables of 11 R165, and what the arbiter begins at the end of a return shard (10 R151 to R160). -/

namespace Sys2Proof.Machine

/-! ### The octets of the shard on the link (11 R165) -/

/-- Four flags as an octet: bit i is flag i, and the high half is clear. -/
theorem flagsOctet_bits (f₀ f₁ f₂ f₃ : Bool) :
    let flags := flagsOctet [f₀, f₁, f₂, f₃]
    flags.toNat < 16 ∧ flags.getLsbD 0 = f₀ ∧ flags.getLsbD 1 = f₁ ∧ flags.getLsbD 2 = f₂ ∧ flags.getLsbD 3 = f₃ := by
  have hlow : ∀ f₀ f₁ f₂ f₃, (flagsOctet [f₀, f₁, f₂, f₃]).toNat < 16 := by decide
  refine ⟨hlow f₀ f₁ f₂ f₃, ?_⟩
  simp [flagsOctet, presenceBit_getLsbD, -BitVec.getLsbD_eq_getElem]

theorem fieldOctets_eq_twoOctets : fieldOctets = twoOctets := rfl

theorem fieldOf_eq_numberOctets : fieldOf = numberOctets := rfl

theorem SlotView.presence_bits (v : SlotView) :
    v.presence.getLsbD 0 = v.thread.isSome ∧ v.presence.getLsbD 1 = v.expected.isSome ∧
      v.presence.getLsbD 2 = v.parcelStart.isSome ∧ v.presence.getLsbD 3 = v.parcelTag.isSome ∧
      v.presence.getLsbD 4 = v.lastHeld.isSome ∧ v.presence.getLsbD 5 = v.stamp.isSome ∧
      v.presence.getLsbD 6 = v.skipTag.isSome ∧ v.presence.getLsbD 7 = v.reason.isSome := by
  simp [SlotView.presence, presenceBit_getLsbD, -BitVec.getLsbD_eq_getElem]

/-- The early list of a READ_SLOT reply fills the first of its fifteen octets; what follows is open (log entry 21). -/
theorem SlotView.laidOut_octets (v : SlotView) : (ReplyResult.slot v).laidOut v.octets := by
  intro _
  obtain ⟨hthread, hexpected, hstart, htag, hlast, hstamp, hskip, hreason⟩ := v.presence_bits
  refine ⟨v.presence, List.replicate (15 - v.early.length) 0, List.length_replicate, hthread, hexpected, hstart, htag,
    hlast, hstamp, hskip, hreason, ?_⟩
  simp [SlotView.octets, padTo, octetOf, fieldOf_eq_numberOctets, fieldOctets_eq_twoOctets]

theorem ReplyResult.laidOut_octets (r : ReplyResult) : r.laidOut r.octets := by
  cases r with
  | thread active pending binding slotState => cases pending <;> cases binding <;> rfl
  | slot v => exact v.laidOut_octets
  | _ => rfl

/-- The kind, the return sequence and the content, filled up with 0x00 to 64 octets. -/
theorem State.returnOctets_onLink {s : State} {q : Seq} {c : ReturnContent} {kind : Byte} {octets : List Byte}
    (h : s.ret.onLink = some ⟨q, c⟩) (hc : c.octets = (kind, octets)) :
    s.returnOctets = some (kind :: q :: (octets ++ List.replicate (62 - octets.length) 0)) := by
  have hpad : 64 - (octets.length + 1 + 1) = 62 - octets.length := by omega
  simp [State.returnOctets, h, ReturnShard.octets, padTo, hc, hpad]

/-! ### The end of a return shard (10 R151, R152) -/

section EndOfShard

variable {s : State} {r : ReturnLink}

/-- A status that is not pending, or that the full-restart hold keeps back, is passed over (10 R152). -/
theorem ReturnLink.congestion_passed_over (h : r.congestionPending = false ∨ r.fullRestartHold = true) :
    (r.congestionPending && !r.fullRestartHold) = false := by
  rcases h with h | h <;> simp [h]

/-- A reply that begins frees its place, which the engine judges (10 R155). -/
theorem State.endReturnShard_of_reply {q : Seq} {p : Reply}
    (h : ReturnLink.arbitrate { s.ret with onLink := none } s.store.congestionContent = r)
    (hr : r.onLink = some ⟨q, .reply p⟩) : s.endReturnShard = { s with ret := r }.serve := by
  subst h
  simp only [State.endReturnShard, State.arbitrate, hr]

/-- Where no reply begins, the arbiter's choice is all that happens (10 R151). -/
theorem State.endReturnShard_of_no_reply
    (h : ReturnLink.arbitrate { s.ret with onLink := none } s.store.congestionContent = r)
    (hr : ∀ q p, r.onLink ≠ some ⟨q, .reply p⟩) : s.endReturnShard = { s with ret := r } := by
  subst h
  unfold State.endReturnShard
  dsimp only
  split
  case h_1 q p hbegun => exact absurd hbegun (hr q p)
  all_goals rfl

theorem State.endReturnShard_congestion (hp : s.ret.congestionPending = true) (hh : s.ret.fullRestartHold = false) :
    s.endReturnShard = { s with ret := { s.ret with
      onLink := some ⟨s.ret.sequence, s.store.congestionContent⟩
      sequence := s.ret.sequence + 1
      congestionPending := false } } :=
  State.endReturnShard_of_no_reply (ReturnLink.arbitrate_congestion _ _ rfl hp hh) fun _ _ h => by cases h

theorem State.endReturnShard_reply {p : Reply} {rest : List Reply}
    (hheld : s.ret.congestionPending = false ∨ s.ret.fullRestartHold = true) (hr : s.ret.replies = p :: rest) :
    s.endReturnShard = { s with ret := { s.ret with
      onLink := some ⟨s.ret.sequence, .reply p⟩
      sequence := s.ret.sequence + 1
      replies := rest
      fullRestartHold := false } }.serve :=
  State.endReturnShard_of_reply
    (ReturnLink.arbitrate_reply _ _ p rest rfl (ReturnLink.congestion_passed_over hheld) hr) rfl

theorem State.endReturnShard_notice {m : Notice} {rest : List Notice}
    (hheld : s.ret.congestionPending = false ∨ s.ret.fullRestartHold = true) (hr : s.ret.replies = [])
    (hn : s.ret.notices = m :: rest) :
    s.endReturnShard = { s with ret := { s.ret with
      onLink := some ⟨s.ret.sequence, .notice m⟩
      sequence := s.ret.sequence + 1
      notices := rest } } :=
  State.endReturnShard_of_no_reply
    (ReturnLink.arbitrate_notice _ _ m rest rfl (ReturnLink.congestion_passed_over hheld) hr hn) fun _ _ h => by cases h

theorem State.endReturnShard_nothing (hheld : s.ret.congestionPending = false ∨ s.ret.fullRestartHold = true)
    (hr : s.ret.replies = []) (hn : s.ret.notices = []) :
    s.endReturnShard = { s with ret := { s.ret with onLink := none } } :=
  State.endReturnShard_of_no_reply
    (ReturnLink.arbitrate_nothing _ _ (ReturnLink.congestion_passed_over hheld) hr hn) fun _ _ h => by cases h

theorem exec_returnShardEnd_idle (h : s.ret.onLink = none) : exec .returnShardEnd s = .next s :=
  congrArg Host.Outcome.next (if_neg (by simp [h]))

theorem exec_returnShardEnd_busy (h : s.ret.onLink.isSome = true) :
    exec .returnShardEnd s = .next s.endReturnShard :=
  congrArg Host.Outcome.next (if_pos h)

end EndOfShard

/-! ### Submissions (10 R155 to R159) -/

/-- A notice raised at a full queue is lost and counted (10 R156). -/
theorem State.raise_full (s : State) (kind : NoticeKind) (t : Option ThreadId) (g : Option Tag) (n : Option LaneId)
    (c : Option (BitVec 16)) (hmask : s.ret.noticeMask.getLsbD kind.code = true) (hfull : 16 ≤ s.ret.notices.length) :
    s.raise kind t g n c = { s with ret := s.ret.loseNotice }.bumpDevice .noticesLost := by
  unfold State.raise
  rw [if_neg (by rw [hmask]; decide)]
  exact if_pos hfull

/-- A congestion change handed on while a shard is on the link is counted, and its status waits (10 R152, R159). -/
theorem State.handOffCongestion_busy (s : State) (h : s.ret.onLink.isSome = true) :
    s.handOffCongestion = { s.bumpDevice .congestionChanges with ret := { s.ret with congestionPending := true } } :=
  State.arbitrate_busy { s.bumpDevice .congestionChanges with ret := { s.ret with congestionPending := true } } h

end Sys2Proof.Machine

open Sys2Proof Sys2Proof.Machine

/-- Settles O48: the octets of a content are those of its table (`ReplyResult.laidOut_octets`, `flagsOctet_bits`) behind
its kind and sequence (`State.returnOctets_onLink`), and each rank of the arbiter is a case of the end of a shard. -/
theorem returnShardsAreChosenByRankAndLaidOut : Obligations.ReturnShardsAreChosenByRankAndLaidOut := by
  refine ⟨fun s q c hlink => ⟨?reply, ?notice, ?congestion⟩, by decide, fun s => ⟨exec_returnShardEnd_idle, fun hbusy => ?_⟩⟩
  case reply =>
    rintro r rfl
    exact ⟨r.result.octets, r.result.laidOut_octets, State.returnOctets_onLink hlink rfl⟩
  case notice =>
    rintro m rfl
    obtain ⟨hlow, hthread, htag, hlane, hcount⟩ :=
      flagsOctet_bits m.thread.isSome m.tag.isSome m.lane.isSome m.count.isSome
    exact ⟨_, hlow, hthread, htag, hlane, hcount, State.returnOctets_onLink hlink rfl⟩
  case congestion =>
    rintro f₀ f₁ f₂ f₃ u₀ u₁ u₂ u₃ rfl
    obtain ⟨hlow, h₀, h₁, h₂, h₃⟩ := flagsOctet_bits f₀ f₁ f₂ f₃
    refine ⟨_, hlow, h₀, h₁, h₂, h₃, State.returnOctets_onLink hlink ?_⟩
    simp [ReturnContent.octets, fieldOf_eq_numberOctets]
  · rw [exec_returnShardEnd_busy hbusy]
    refine ⟨fun hp hh => ?_, fun p rest hheld hr => ?_, fun m rest hheld hr hn => ?_, fun hheld hr hn => ?_⟩
    · rw [State.endReturnShard_congestion hp hh, State.congestionContent_eq]
    · rw [State.endReturnShard_reply hheld hr]
    · rw [State.endReturnShard_notice hheld hr hn]
    · rw [State.endReturnShard_nothing hheld hr hn]

/-- Settles O49: each clause is the rule of its submission on a busy link or on an idle one. -/
theorem submissionsJoinTheirQueues : Obligations.SubmissionsJoinTheirQueues := by
  intro s
  refine ⟨fun p => ⟨s.queueReply_busy p, ?_⟩, fun k x g n c => ⟨?masked, ?full, ?busy, ?idle⟩, s.handOffCongestion_busy⟩
  · rintro ⟨hlink, hreplies, -, hpending⟩
    exact s.queueReply_idle p hlink hreplies hpending
  case masked => exact fun hmask => s.raise_masked k x g n c (Bool.eq_false_of_not_eq_true hmask)
  case full => exact fun hmask hfull => s.raise_full k x g n c hmask hfull
  case busy => exact fun hmask hroom hlink => s.raise_busy k x g n c hlink hmask hroom
  case idle =>
    rintro hmask ⟨hlink, hreplies, hnotices, hpending⟩
    exact s.raise_idle k x g n c hlink hreplies hnotices hpending hmask

end

section
/-! SUPPORT. Commands as a whole: every one is answered by a next state, none touches the queue of waiting commands, and a step takes the front of that queue (00 3.6, log entry 2). -/

namespace Sys2Proof.Machine

/-! ### The engine and the gate leave what is outside the part alone -/

section Operations

variable (s : State) (r : Request)

@[simp] theorem State.outer_serve : s.serve.outer = s.outer :=
  State.takeRequests_keeps (p := fun z => z.outer = s.outer) (fun _ _ h => (State.outer_carryOut _ _).trans h)
    s.engine.queue.length rfl

@[simp] theorem State.outer_arrive : (s.arrive r).outer = s.outer := by
  unfold State.arrive
  split
  · exact State.outer_serve _
  split
  · dsimp only
    split
    · exact State.outer_serve _
    · rfl
  · rfl

@[simp] theorem State.outer_requestArrives : (s.requestArrives r).outer = s.outer := by
  unfold State.requestArrives
  split
  · rfl
  · exact s.outer_arrive r

@[simp] theorem State.outer_endDrain (st : Status) : (s.endDrain r st).outer = s.outer :=
  State.outer_serve _

@[simp] theorem State.outer_drainReport : s.drainReport.outer = s.outer := by
  unfold State.drainReport
  split
  · rfl
  split
  · exact s.outer_endDrain _ _
  · rfl

@[simp] theorem State.outer_laneReport (n : LaneId) : (s.laneReport n).outer = s.outer := by
  unfold State.laneReport
  split
  · exact s.outer_drainReport
  · rfl

@[simp] theorem State.outer_takeOctets (octets : List Byte) : (s.takeOctets octets).outer = s.outer := by
  unfold State.takeOctets
  split
  · rfl
  split
  · rfl
  · exact s.outer_arrive _
  · simp

@[simp] theorem State.outer_takeReport : s.takeReport.outer = s.outer := by
  unfold State.takeReport
  split
  · exact State.outer_drainReport _
  · rfl

@[simp] theorem State.outer_expireStall (n : LaneId) : (s.expireStall n).outer = s.outer := by
  unfold State.expireStall
  split
  · split
    · rfl
    · simp
  · rfl

@[simp] theorem State.outer_endReturnShard : s.endReturnShard.outer = s.outer := by
  unfold State.endReturnShard
  dsimp only
  split
  · exact State.outer_serve _
  · rfl
  · rfl
  · rfl

end Operations

/-! ### Every command -/

section Commands

variable {i : Instr} {s t : State}

/-- Every row of the opcode table has a meaning, and it ends in a next state. -/
theorem exec_answers (i : Instr) (s : State) : ∃ t, exec i s = .next t := by
  cases i <;> exact ⟨_, rfl⟩

/-- Only the two events of RESETN and the end of start-up reach RESETN and the build; no other command touches those or
the commands waiting (09 R140, R141). -/
theorem exec_outer (hassert : i ≠ .resetnAssert) (hrelease : i ≠ .resetnRelease) (hend : i ≠ .endOfStartUp)
    (hexec : exec i s = .next t) : t.outer = s.outer := by
  have hrequest : ∀ r, exec i s = .next (s.requestArrives r) → t.outer = s.outer := fun r hr => by
    cases hr.symm.trans hexec
    exact s.outer_requestArrives r
  cases i
  case resetnAssert => exact absurd rfl hassert
  case resetnRelease => exact absurd rfl hrelease
  case endOfStartUp => exact absurd rfl hend
  case shardArrival v =>
    cases hexec
    exact s.outer_takeOctets _
  case closeJudgement =>
    cases hexec
    split
    · rfl
    · exact State.outer_takeReport _
  case grant n w =>
    cases hexec
    split
    · rfl
    · exact s.outer_takeGrant n _
  case emissionEnd n =>
    cases hexec
    split
    · rfl
    · simp
  case stallExpiry n =>
    cases hexec
    exact s.outer_expireStall n
  case periodExpiry =>
    cases hexec
    split
    · exact State.outer_oweScan _
    · rfl
  case scanVisit =>
    cases hexec
    split
    · rfl
    · exact s.outer_visit _
  case drainTimerExpiry =>
    cases hexec
    split
    · exact s.outer_endDrain _ _
    · rfl
  case returnShardEnd =>
    cases hexec
    split
    · exact s.outer_endReturnShard
    · rfl
  all_goals exact hrequest _ rfl

/-- RESETN and the end of start-up, too, leave the commands waiting. -/
theorem exec_pending (hexec : exec i s = .next t) : t.pending = s.pending := by
  rcases eq_or_ne i .resetnAssert with rfl | hassert
  · cases hexec
    rfl
  rcases eq_or_ne i .resetnRelease with rfl | hrelease
  · cases hexec
    split <;> rfl
  rcases eq_or_ne i .endOfStartUp with rfl | hend
  · cases hexec
    split
    · exact s.built.raise_pending .started none none none none
    · rfl
  obtain ⟨hpending, -⟩ := State.outer_eq_iff.mp (exec_outer hassert hrelease hend hexec)
  exact hpending

end Commands

/-! ### One step -/

theorem step_front {s : State} {c : Instr} {rest : List Instr} (h : s.pending = c :: rest) :
    step s = exec c { s with pending := rest } := by
  unfold step
  rw [h]

theorem step_idle {s : State} (h : s.pending = []) : step s = .next s := by
  unfold step
  rw [h]

end Sys2Proof.Machine

open Sys2Proof Sys2Proof.Machine

/-- Settles O2: a command's next state exists (`exec_answers`) and has the same commands waiting (`exec_pending`). -/
theorem everyCommandAnswersANextState : Obligations.EveryCommandAnswersANextState := by
  intro i s
  obtain ⟨t, hexec⟩ := exec_answers i s
  exact ⟨t, hexec, exec_pending hexec⟩

/-- Settles O1: the two forms of the queue are the two cases of `step` (`step_front`, `step_idle`). -/
theorem stepTakesTheFrontCommand : Obligations.StepTakesTheFrontCommand :=
  ⟨fun _ _ _ h => step_front h, fun _ h => step_idle h⟩

end
